-- ==== Sys2Proof/Word.lean ====
section
/-! DEFINITION. The 32-bit word of the core and its two readings (00_scope.md R8). -/

namespace Sys2Proof

/-- A `bits32` pattern: a stack slot, a global, `RV`, `bp`, `sp`, `pc`, an instruction word (R5, R8). -/
abbrev Word := BitVec 32

/-- `int32(b)`: the two's-complement reading of a pattern (R8). -/
abbrev int32 (b : Word) : Int := b.toInt

/-- `wrap32(n)`: the pattern whose two's-complement reading is congruent to `n` modulo 2^32 (R8). -/
abbrev wrap32 (n : Int) : Word := BitVec.ofInt 32 n

/-- `n` lies in the int32 range [-2^31, 2^31 - 1] (R8). -/
abbrev inInt32 (n : Int) : Prop := -2147483648 ≤ n ∧ n ≤ 2147483647

end Sys2Proof
end

