-- ==== Sys2Proof/Machine/Float.lean ====
section
/-! DEFINITION. IEEE 754 binary arithmetic, computed exactly on integers and rounded once, to nearest with
ties to even (00_scope.md R9, 41_int_arith.md R63, R64, 43_float_arith.md R80 to R87). What the spec marks
as general knowledge about IEEE 754 is in log 13. -/

namespace Sys2Proof.Machine

/-- A binary interchange format by the widths of its exponent and fraction fields (R9, D29). -/
structure FloatFormat where
  expBits : Nat
  fracBits : Nat
  deriving DecidableEq, Repr

/-- binary32: sign bit 31, exponent 30:23, fraction 22:0 (R9). -/
def binary32 : FloatFormat := ⟨8, 23⟩

/-- binary64: sign bit 63, exponent 62:52, fraction 51:0 (R63). -/
def binary64 : FloatFormat := ⟨11, 52⟩

/-- Exponent bias. -/
def FloatFormat.bias (f : FloatFormat) : Nat := 2 ^ (f.expBits - 1) - 1

/-- Exponent of the last place of a subnormal: the least exponent of a significand read as an integer. -/
def FloatFormat.eMin (f : FloatFormat) : Int := 1 - (f.bias : Int) - f.fracBits

/-- Exponent of the last place of the largest finite number. -/
def FloatFormat.eMax (f : FloatFormat) : Int := (f.bias : Int) - f.fracBits

/-- A number of a format that is not a NaN: an infinity, or `±mant · 2^exp` (a zero has `mant = 0`). -/
inductive FNum
  | inf (neg : Bool)
  | fin (neg : Bool) (mant : Nat) (exp : Int)
  deriving DecidableEq, Repr

/-- A float value: a number, or `none`, a NaN. -/
abbrev FVal := Option FNum

/-- The value of a bit pattern of the format (R9). -/
def unpack (f : FloatFormat) (b : Nat) : FVal :=
  let frac := b % 2 ^ f.fracBits
  let ex := b / 2 ^ f.fracBits % 2 ^ f.expBits
  let neg := b / 2 ^ (f.fracBits + f.expBits) % 2 == 1
  if ex = 2 ^ f.expBits - 1 then
    if frac = 0 then some (.inf neg) else none
  else if ex = 0 then some (.fin neg frac f.eMin)
  else some (.fin neg (2 ^ f.fracBits + frac) (f.eMin + ex - 1))

/-- The bit pattern of a number of the format. -/
def pack (f : FloatFormat) : FNum → Nat
  | .inf neg =>
    (if neg then 2 ^ (f.fracBits + f.expBits) else 0) + (2 ^ f.expBits - 1) * 2 ^ f.fracBits
  | .fin neg m e =>
    (if neg then 2 ^ (f.fracBits + f.expBits) else 0) +
      (if m < 2 ^ f.fracBits then m
       else (e - f.eMin + 1).toNat * 2 ^ f.fracBits + (m - 2 ^ f.fracBits))

/-- The `k` with `2^k ≤ num/den < 2^(k+1)`, for positive `num` and `den`. -/
def floorLog2 (num den : Nat) : Int :=
  let d : Int := (num.log2 : Int) - den.log2
  if den * 2 ^ d.toNat ≤ num * 2 ^ (-d).toNat then d else d - 1

/-- Round an integer quotient `n/d` to the nearest integer, ties to even. -/
def divNearestEven (n d : Nat) : Nat :=
  if 2 * (n % d) > d ∨ (2 * (n % d) = d ∧ n / d % 2 = 1) then n / d + 1 else n / d

/-- The exact value `±num/den` (`den > 0`) rounded to the format, to nearest with ties to even;
subnormals are kept and a value beyond the range is an infinity (R80). -/
def roundRatio (f : FloatFormat) (neg : Bool) (num den : Nat) : FNum :=
  if num = 0 then .fin neg 0 f.eMin
  else
    let e := max (floorLog2 num den - f.fracBits) f.eMin
    let m := divNearestEven (num * 2 ^ (-e).toNat) (den * 2 ^ e.toNat)
    if m = 2 ^ (f.fracBits + 1) then
      if f.eMax < e + 1 then .inf neg else .fin neg (2 ^ f.fracBits) (e + 1)
    else if f.eMax < e then .inf neg
    else .fin neg m e

/-- `±mant · 2^exp` rounded to the format. -/
def roundDyadic (f : FloatFormat) (neg : Bool) (mant : Nat) (exp : Int) : FNum :=
  roundRatio f neg (mant * 2 ^ exp.toNat) (2 ^ (-exp).toNat)

/-- `toF(n)`: an integer converted to the format (R63). -/
def toF (f : FloatFormat) (n : Int) : FNum := roundRatio f (n < 0) n.natAbs 1

/-- A significand with its sign, scaled from exponent `e` down to exponent `e0 ≤ e`. -/
def scaledInt (neg : Bool) (m : Nat) (e e0 : Int) : Int :=
  (if neg then -1 else 1) * (m * 2 ^ (e - e0).toNat : Nat)

/-- Sum of two finite numbers. An exact zero is +0 unless both operands are negative (R81, R82). -/
def addFinite (f : FloatFormat) (sa : Bool) (ma : Nat) (ea : Int) (sb : Bool) (mb : Nat) (eb : Int) :
    FNum :=
  let e := min ea eb
  let t := scaledInt sa ma ea e + scaledInt sb mb eb e
  if t = 0 then .fin (sa && sb) 0 f.eMin else roundDyadic f (t < 0) t.natAbs e

/-- Negation flips the sign of a number and leaves a NaN a NaN. -/
def fneg : FVal → FVal
  | none => none
  | some (.inf s) => some (.inf (!s))
  | some (.fin s m e) => some (.fin (!s) m e)

/-- IEEE addition (R81). -/
def fadd (f : FloatFormat) : FVal → FVal → FVal
  | some (.inf s), some (.inf t) => if s = t then some (.inf s) else none
  | some (.inf s), some (.fin _ _ _) => some (.inf s)
  | some (.fin _ _ _), some (.inf t) => some (.inf t)
  | some (.fin sa ma ea), some (.fin sb mb eb) => some (addFinite f sa ma ea sb mb eb)
  | none, _ => none
  | some _, none => none

/-- IEEE subtraction (R82). -/
def fsub (f : FloatFormat) (a b : FVal) : FVal := fadd f a (fneg b)

/-- IEEE multiplication (R83). -/
def fmul (f : FloatFormat) : FVal → FVal → FVal
  | some (.inf s), some (.inf t) => some (.inf (s ^^ t))
  | some (.inf s), some (.fin t m _) => if m = 0 then none else some (.inf (s ^^ t))
  | some (.fin s m _), some (.inf t) => if m = 0 then none else some (.inf (s ^^ t))
  | some (.fin sa ma ea), some (.fin sb mb eb) =>
    some (roundDyadic f (sa ^^ sb) (ma * mb) (ea + eb))
  | none, _ => none
  | some _, none => none

/-- IEEE division: a zero divisor gives an infinity, `0/0` and `inf/inf` a NaN (R84). -/
def fdiv (f : FloatFormat) : FVal → FVal → FVal
  | some (.inf _), some (.inf _) => none
  | some (.inf s), some (.fin t _ _) => some (.inf (s ^^ t))
  | some (.fin s _ _), some (.inf t) => some (.fin (s ^^ t) 0 f.eMin)
  | some (.fin sa ma ea), some (.fin sb mb eb) =>
    if mb = 0 then (if ma = 0 then none else some (.inf (sa ^^ sb)))
    else some (roundRatio f (sa ^^ sb) (ma * 2 ^ (ea - eb).toNat) (mb * 2 ^ (eb - ea).toNat))
  | none, _ => none
  | some _, none => none

/-- `fmodF`: the truncating remainder, always exact, with the sign of the dividend (R85). -/
def fmod (f : FloatFormat) : FVal → FVal → FVal
  | some (.inf _), some _ => none
  | some (.fin s m e), some (.inf _) => some (.fin s m e)
  | some (.fin sb mb eb), some (.fin _ mc ec) =>
    if mc = 0 then none
    else
      let e := min eb ec
      some (roundDyadic f sb ((mb * 2 ^ (eb - e).toNat) % (mc * 2 ^ (ec - e).toNat)) e)
  | none, _ => none
  | some _, none => none

/-- One bit of a square root at a time, from bit `k - 1` down to bit 0, above the root `r` so far. -/
def isqrtFrom (n : Nat) : Nat → Nat → Nat
  | 0, r => r
  | k + 1, r => if (r + 2 ^ k) * (r + 2 ^ k) ≤ n then isqrtFrom n k (r + 2 ^ k) else isqrtFrom n k r

/-- The integer square root: the largest `r` with `r * r ≤ n`. -/
def isqrt (n : Nat) : Nat := isqrtFrom n (n.log2 / 2 + 1) 0

/-- Square root of a positive `mant · 2^exp`, correctly rounded: the root's integer part to more bits
than the format holds, one further bit saying whether it is exact, rounded once. -/
def sqrtFinite (f : FloatFormat) (mant : Nat) (exp : Int) : FNum :=
  let g : Nat := 2 * f.fracBits + 4 + (exp % 2).toNat
  let n := mant * 2 ^ g
  let r := isqrt n
  roundDyadic f false (2 * r + (if r * r = n then 0 else 1)) ((exp - g) / 2 - 1)

/-- IEEE squareRoot: a negative non-zero value gives a NaN and -0 gives -0 (R63, R86). -/
def fsqrt (f : FloatFormat) : FVal → FVal
  | none => none
  | some (.inf neg) => if neg then none else some (.inf false)
  | some (.fin neg m e) =>
    if m = 0 then some (.fin neg 0 f.eMin) else if neg then none else some (sqrtFinite f m e)

/-- The integer `±mant · 2^exp` rounds to toward zero. -/
def truncToward0 (neg : Bool) (m : Nat) (e : Int) : Int :=
  (if neg then -1 else 1) * (m * 2 ^ e.toNat / 2 ^ (-e).toNat : Nat)

/-- `truncI(f)` of R64 without its fault: none where the value has no int32 reading. -/
def truncI : FVal → Option Int
  | some (.fin neg m e) => if inInt32 (truncToward0 neg m e) then some (truncToward0 neg m e) else none
  | some (.inf _) => none
  | none => none

/-! The power function `FPOW` of D7. -/

/-- The integer a number is, if it is one. -/
def FNum.toInt? : FNum → Option Int
  | .inf _ => none
  | .fin neg m e =>
    if m * 2 ^ e.toNat % 2 ^ (-e).toNat = 0 then some (truncToward0 neg m e) else none

/-- `±num/den` as a number of the format, if it is one exactly. -/
def exactRatio (f : FloatFormat) (neg : Bool) (num den : Nat) : Option FNum :=
  match roundRatio f neg num den with
  | .fin s m e => if m * 2 ^ e.toNat * den = num * 2 ^ (-e).toNat then some (.fin s m e) else none
  | .inf _ => none

/-- `a^b` for integers, `a` not 0, as a number of the format, if it is one exactly. A power with more
factors of 2 than the format's range is not one, and is not computed. -/
def exactPow (f : FloatFormat) (a b : Int) : Option FNum :=
  let neg := decide (a < 0) && decide (b % 2 = 1)
  if a.natAbs = 1 then exactRatio f neg 1 1
  else if f.bias + f.fracBits < a.natAbs.log2 * b.natAbs then none
  else if 0 ≤ b then exactRatio f neg (a.natAbs ^ b.natAbs) 1
  else exactRatio f neg 1 (a.natAbs ^ b.natAbs)

/-- Whether a number is +0. -/
def FNum.isPosZero : FNum → Bool
  | .fin neg m _ => !neg && m == 0
  | .inf _ => false

/-- The sign bit of a pattern of the format. -/
def signBit (f : FloatFormat) (b : Nat) : Bool := b / 2 ^ (f.fracBits + f.expBits) % 2 == 1

/-- `FPOW` (D7): exact where `FPOW_EXACT_INT` pins it, both arguments integers and the exact power a
number of the format; else the free pattern `free`. A zero power's sign is free; +0 to a negative integer
is an infinity (R71) whose sign is free; 0 to the 0 is free (log 5). -/
def fpow (f : FloatFormat) (free : Nat) : FVal → FVal → FVal
  | some x, some y =>
    match x.toInt?, y.toInt? with
    | some a, some b =>
      if a = 0 then
        if 0 < b then some (.fin (signBit f free) 0 f.eMin)
        else if b < 0 ∧ x.isPosZero then some (.inf (signBit f free))
        else unpack f free
      else
        match exactPow f a b with
        | some r => some r
        | none => unpack f free
    | none, _ => unpack f free
    | some _, none => unpack f free
  | none, _ => unpack f free
  | some _, none => unpack f free

end Sys2Proof.Machine
end

