-- ==== Sys2Proof/Syntax.lean ====
section
/-! DEFINITION. The instructions: one constructor of `Instr` per row of the opcode table (30_encoding.md
R46, R49), the mnemonics and the operand formats. A register index and an unsigned immediate are natural
numbers and a signed offset an integer, as R42 and R43 read the fields; WellFormed.lean bounds them. -/

namespace Sys2Proof

/-- The 37 mnemonics, in the order of the default opcode map (R49). -/
inductive Mnemonic
  | ADD | SUB | MUL | DIV | MOD | SQRT | EXP
  | ADDIMM | SUBIMM | MULIMM | DIVIMM | MODIMM | SQRTIMM | EXPIMM
  | FADD | FSUB | FMUL | FDIV | FMOD | FSQRT | FEXP
  | PUSH | POP | MOV | LOADG | SETG | MOVIMM16
  | CMP | GT | GTE | JE | JMP
  | CALL | RET | LOADRET
  | PRINT | END
  deriving DecidableEq, Repr

/-- The eight operand formats (R46). -/
inductive Format
  | R3 | R2 | R1 | RU | RS | U16 | S24 | N
  deriving DecidableEq, Repr

/-- The format of each opcode (R46, R49). -/
def Mnemonic.format : Mnemonic → Format
  | .ADD | .SUB | .MUL | .DIV | .MOD | .EXP => .R3
  | .FADD | .FSUB | .FMUL | .FDIV | .FMOD | .FEXP => .R3
  | .SQRT | .FSQRT | .MOV | .CMP | .GT | .GTE => .R2
  | .PUSH | .POP | .RET | .LOADRET | .PRINT => .R1
  | .ADDIMM | .SUBIMM | .MULIMM | .DIVIMM | .MODIMM | .SQRTIMM | .EXPIMM => .RU
  | .MOVIMM16 | .LOADG | .SETG => .RU
  | .JE => .RS
  | .CALL => .U16
  | .JMP => .S24
  | .END => .N

/-- An instruction with the operands its format uses (R46); bits a format ignores (R47) are not part of it. -/
inductive Instr
  | add (rA rB rC : Nat)
  | sub (rA rB rC : Nat)
  | mul (rA rB rC : Nat)
  | div (rA rB rC : Nat)
  | mod (rA rB rC : Nat)
  | sqrt (rA rB : Nat)
  | exp (rA rB rC : Nat)
  | addimm (rA u16 : Nat)
  | subimm (rA u16 : Nat)
  | mulimm (rA u16 : Nat)
  | divimm (rA u16 : Nat)
  | modimm (rA u16 : Nat)
  | sqrtimm (rA u16 : Nat)
  | expimm (rA u16 : Nat)
  | fadd (rA rB rC : Nat)
  | fsub (rA rB rC : Nat)
  | fmul (rA rB rC : Nat)
  | fdiv (rA rB rC : Nat)
  | fmod (rA rB rC : Nat)
  | fsqrt (rA rB : Nat)
  | fexp (rA rB rC : Nat)
  | push (rA : Nat)
  | pop (rA : Nat)
  | mov (rA rB : Nat)
  | loadg (rA u16 : Nat)
  | setg (rA u16 : Nat)
  | movimm16 (rA u16 : Nat)
  | cmp (rA rB : Nat)
  | gt (rA rB : Nat)
  | gte (rA rB : Nat)
  | je (rA : Nat) (s16 : Int)
  | jmp (s24 : Int)
  | call (u16 : Nat)
  | ret (rA : Nat)
  | loadret (rA : Nat)
  | print (rA : Nat)
  | endRun
  deriving DecidableEq, Repr

/-- The mnemonic of an instruction. -/
def Instr.mnemonic : Instr → Mnemonic
  | .add .. => .ADD
  | .sub .. => .SUB
  | .mul .. => .MUL
  | .div .. => .DIV
  | .mod .. => .MOD
  | .sqrt .. => .SQRT
  | .exp .. => .EXP
  | .addimm .. => .ADDIMM
  | .subimm .. => .SUBIMM
  | .mulimm .. => .MULIMM
  | .divimm .. => .DIVIMM
  | .modimm .. => .MODIMM
  | .sqrtimm .. => .SQRTIMM
  | .expimm .. => .EXPIMM
  | .fadd .. => .FADD
  | .fsub .. => .FSUB
  | .fmul .. => .FMUL
  | .fdiv .. => .FDIV
  | .fmod .. => .FMOD
  | .fsqrt .. => .FSQRT
  | .fexp .. => .FEXP
  | .push .. => .PUSH
  | .pop .. => .POP
  | .mov .. => .MOV
  | .loadg .. => .LOADG
  | .setg .. => .SETG
  | .movimm16 .. => .MOVIMM16
  | .cmp .. => .CMP
  | .gt .. => .GT
  | .gte .. => .GTE
  | .je .. => .JE
  | .jmp .. => .JMP
  | .call .. => .CALL
  | .ret .. => .RET
  | .loadret .. => .LOADRET
  | .print .. => .PRINT
  | .endRun => .END

end Sys2Proof
end

