-- ==== Sys2Proof/WellFormed.lean ====
section
/-! DEFINITION. Which operand values an encoding can hold (30_encoding.md R42, R43). -/

namespace Sys2Proof

/-- An 8-bit register index, 0 to 255 (R42). -/
abbrev isReg (n : Nat) : Prop := n < 256

/-- A 16-bit unsigned immediate, 0 to 65535 (R42). -/
abbrev isU16 (n : Nat) : Prop := n < 65536

/-- A 16-bit signed offset in excess code, -32768 to 32767 (R43). -/
abbrev isS16 (n : Int) : Prop := -32768 ≤ n ∧ n ≤ 32767

/-- A 24-bit signed offset in excess code, -8388608 to 8388607 (R43). -/
abbrev isS24 (n : Int) : Prop := -8388608 ≤ n ∧ n ≤ 8388607

/-- Every operand is a value its field can hold. -/
def Instr.wellFormed : Instr → Bool
  | .add a b c | .sub a b c | .mul a b c | .div a b c | .mod a b c | .exp a b c =>
    decide (isReg a ∧ isReg b ∧ isReg c)
  | .fadd a b c | .fsub a b c | .fmul a b c | .fdiv a b c | .fmod a b c | .fexp a b c =>
    decide (isReg a ∧ isReg b ∧ isReg c)
  | .sqrt a b | .fsqrt a b | .mov a b | .cmp a b | .gt a b | .gte a b =>
    decide (isReg a ∧ isReg b)
  | .push a | .pop a | .ret a | .loadret a | .print a => decide (isReg a)
  | .addimm a u | .subimm a u | .mulimm a u | .divimm a u | .modimm a u =>
    decide (isReg a ∧ isU16 u)
  | .sqrtimm a u | .expimm a u | .movimm16 a u | .loadg a u | .setg a u =>
    decide (isReg a ∧ isU16 u)
  | .je a s => decide (isReg a ∧ isS16 s)
  | .jmp s => decide (isS24 s)
  | .call u => decide (isU16 u)
  | .endRun => true

end Sys2Proof
end

