-- ==== Sys2Proof/Decode.lean ====
section
/-! DEFINITION. The decoder: field extractor, default opcode map and decode function, and after them the
encoder (30_encoding.md R41 to R52). -/

namespace Sys2Proof

/-- Bits `hi..lo` of a word as an unsigned number: `w[hi:lo] = floor(w / 2^lo) mod 2^(hi-lo+1)` (R7). -/
def bits (w : Word) (hi lo : Nat) : Nat := w.toNat / 2 ^ lo % 2 ^ (hi - lo + 1)

/-- All outputs of the combinational extractor, produced for every word (R42, R43, R44). -/
structure Fields where
  op : Nat
  rA : Nat
  rB : Nat
  rC : Nat
  u16 : Nat
  s16 : Int
  u24 : Nat
  s24 : Int
  deriving DecidableEq, Repr

/-- The extractor (R44). The signed immediates use the excess code of R43. -/
def extract (w : Word) : Fields where
  op := bits w 7 0
  rA := bits w 15 8
  rB := bits w 23 16
  rC := bits w 31 24
  u16 := bits w 31 16
  s16 := (bits w 31 16 : Int) - 32768
  u24 := bits w 31 8
  s24 := (bits w 31 8 : Int) - 8388608

/-- The default opcode map `OPC` (R49; log 1). -/
def Mnemonic.opc : Mnemonic → Nat
  | .ADD => 0x00
  | .SUB => 0x01
  | .MUL => 0x02
  | .DIV => 0x03
  | .MOD => 0x04
  | .SQRT => 0x05
  | .EXP => 0x06
  | .ADDIMM => 0x07
  | .SUBIMM => 0x08
  | .MULIMM => 0x09
  | .DIVIMM => 0x0A
  | .MODIMM => 0x0B
  | .SQRTIMM => 0x0C
  | .EXPIMM => 0x0D
  | .FADD => 0x0E
  | .FSUB => 0x0F
  | .FMUL => 0x10
  | .FDIV => 0x11
  | .FMOD => 0x12
  | .FSQRT => 0x13
  | .FEXP => 0x14
  | .PUSH => 0x15
  | .POP => 0x16
  | .MOV => 0x17
  | .LOADG => 0x18
  | .SETG => 0x19
  | .MOVIMM16 => 0x1A
  | .CMP => 0x1B
  | .GT => 0x1C
  | .GTE => 0x1D
  | .JE => 0x1E
  | .JMP => 0x1F
  | .CALL => 0x20
  | .RET => 0x21
  | .LOADRET => 0x22
  | .PRINT => 0x23
  | .END => 0x24

/-- `OPC⁻¹`: the mnemonic of an opcode value, none for an unassigned one (R45, R51). -/
def opcodeOf : Nat → Option Mnemonic
  | 0x00 => some .ADD
  | 0x01 => some .SUB
  | 0x02 => some .MUL
  | 0x03 => some .DIV
  | 0x04 => some .MOD
  | 0x05 => some .SQRT
  | 0x06 => some .EXP
  | 0x07 => some .ADDIMM
  | 0x08 => some .SUBIMM
  | 0x09 => some .MULIMM
  | 0x0A => some .DIVIMM
  | 0x0B => some .MODIMM
  | 0x0C => some .SQRTIMM
  | 0x0D => some .EXPIMM
  | 0x0E => some .FADD
  | 0x0F => some .FSUB
  | 0x10 => some .FMUL
  | 0x11 => some .FDIV
  | 0x12 => some .FMOD
  | 0x13 => some .FSQRT
  | 0x14 => some .FEXP
  | 0x15 => some .PUSH
  | 0x16 => some .POP
  | 0x17 => some .MOV
  | 0x18 => some .LOADG
  | 0x19 => some .SETG
  | 0x1A => some .MOVIMM16
  | 0x1B => some .CMP
  | 0x1C => some .GT
  | 0x1D => some .GTE
  | 0x1E => some .JE
  | 0x1F => some .JMP
  | 0x20 => some .CALL
  | 0x21 => some .RET
  | 0x22 => some .LOADRET
  | 0x23 => some .PRINT
  | 0x24 => some .END
  | _ => none

/-- The decoded variants of R45: one per operand shape, or the unassigned opcode value. -/
inductive Variant
  | threeReg (m : Mnemonic) (rA rB rC : Nat)
  | regImm16 (m : Mnemonic) (rA u16 : Nat)
  | regSImm16 (m : Mnemonic) (rA : Nat) (s16 : Int)
  | sImm24 (m : Mnemonic) (s24 : Int)
  | noOperand (m : Mnemonic)
  | unknown (op : Nat)
  deriving DecidableEq, Repr

/-- R45's decode function: the variant a word decodes to, ignored fields included. -/
def decodeVariant (w : Word) : Variant :=
  let f := extract w
  match opcodeOf f.op with
  | none => .unknown f.op
  | some m =>
    match m.format with
    | .R3 | .R2 | .R1 => .threeReg m f.rA f.rB f.rC
    | .RU | .U16 => .regImm16 m f.rA f.u16
    | .RS => .regSImm16 m f.rA f.s16
    | .S24 => .sImm24 m f.s24
    | .N => .noOperand m

/-- The instruction a mnemonic and the extracted fields stand for: the operands its format uses (R46);
the fields it does not use are dropped (R47). -/
def instrOf (m : Mnemonic) (f : Fields) : Instr :=
  match m with
  | .ADD => .add f.rA f.rB f.rC
  | .SUB => .sub f.rA f.rB f.rC
  | .MUL => .mul f.rA f.rB f.rC
  | .DIV => .div f.rA f.rB f.rC
  | .MOD => .mod f.rA f.rB f.rC
  | .SQRT => .sqrt f.rA f.rB
  | .EXP => .exp f.rA f.rB f.rC
  | .ADDIMM => .addimm f.rA f.u16
  | .SUBIMM => .subimm f.rA f.u16
  | .MULIMM => .mulimm f.rA f.u16
  | .DIVIMM => .divimm f.rA f.u16
  | .MODIMM => .modimm f.rA f.u16
  | .SQRTIMM => .sqrtimm f.rA f.u16
  | .EXPIMM => .expimm f.rA f.u16
  | .FADD => .fadd f.rA f.rB f.rC
  | .FSUB => .fsub f.rA f.rB f.rC
  | .FMUL => .fmul f.rA f.rB f.rC
  | .FDIV => .fdiv f.rA f.rB f.rC
  | .FMOD => .fmod f.rA f.rB f.rC
  | .FSQRT => .fsqrt f.rA f.rB
  | .FEXP => .fexp f.rA f.rB f.rC
  | .PUSH => .push f.rA
  | .POP => .pop f.rA
  | .MOV => .mov f.rA f.rB
  | .LOADG => .loadg f.rA f.u16
  | .SETG => .setg f.rA f.u16
  | .MOVIMM16 => .movimm16 f.rA f.u16
  | .CMP => .cmp f.rA f.rB
  | .GT => .gt f.rA f.rB
  | .GTE => .gte f.rA f.rB
  | .JE => .je f.rA f.s16
  | .JMP => .jmp f.s24
  | .CALL => .call f.u16
  | .RET => .ret f.rA
  | .LOADRET => .loadret f.rA
  | .PRINT => .print f.rA
  | .END => .endRun

/-- What a word is: an instruction, or an opcode value with no instruction, named (R45, R51). -/
inductive Decoded
  | instr (i : Instr)
  | unknown (op : Nat)
  deriving DecidableEq, Repr

/-- The decoder: a total, pure function of the word alone (R44, R45). -/
def decode (w : Word) : Decoded :=
  match opcodeOf (extract w).op with
  | some m => .instr (instrOf m (extract w))
  | none => .unknown (extract w).op

/-- The instruction the decoder reads from a table row's bits: every row is one 32-bit word whose bit 0
is the least significant (R7, R41); a bit at or above `nbits` is 0. -/
def decodeTableWord (nbits w : Nat) : Option Instr :=
  match decode (BitVec.ofNat 32 (w % 2 ^ nbits)) with
  | .instr i => some i
  | .unknown _ => none

/-! The encoder (R52): 0 in every ignored field. -/

/-- Formats R3, R2 and R1: unused fields are passed as 0. -/
def encodeR (m : Mnemonic) (rA rB rC : Nat) : Word :=
  BitVec.ofNat 32 (m.opc + 2 ^ 8 * rA + 2 ^ 16 * rB + 2 ^ 24 * rC)

/-- Format RU; format U16 with `rA = 0`. -/
def encodeU (m : Mnemonic) (rA u16 : Nat) : Word :=
  BitVec.ofNat 32 (m.opc + 2 ^ 8 * rA + 2 ^ 16 * u16)

/-- Format RS. -/
def encodeS16 (m : Mnemonic) (rA : Nat) (s16 : Int) : Word :=
  BitVec.ofNat 32 (m.opc + 2 ^ 8 * rA + 2 ^ 16 * (s16 + 32768).toNat)

/-- Format S24. -/
def encodeS24 (m : Mnemonic) (s24 : Int) : Word :=
  BitVec.ofNat 32 (m.opc + 2 ^ 8 * (s24 + 8388608).toNat)

/-- The word of a well-formed instruction (R52). -/
def encode : Instr → Word
  | .add a b c => encodeR .ADD a b c
  | .sub a b c => encodeR .SUB a b c
  | .mul a b c => encodeR .MUL a b c
  | .div a b c => encodeR .DIV a b c
  | .mod a b c => encodeR .MOD a b c
  | .sqrt a b => encodeR .SQRT a b 0
  | .exp a b c => encodeR .EXP a b c
  | .addimm a u => encodeU .ADDIMM a u
  | .subimm a u => encodeU .SUBIMM a u
  | .mulimm a u => encodeU .MULIMM a u
  | .divimm a u => encodeU .DIVIMM a u
  | .modimm a u => encodeU .MODIMM a u
  | .sqrtimm a u => encodeU .SQRTIMM a u
  | .expimm a u => encodeU .EXPIMM a u
  | .fadd a b c => encodeR .FADD a b c
  | .fsub a b c => encodeR .FSUB a b c
  | .fmul a b c => encodeR .FMUL a b c
  | .fdiv a b c => encodeR .FDIV a b c
  | .fmod a b c => encodeR .FMOD a b c
  | .fsqrt a b => encodeR .FSQRT a b 0
  | .fexp a b c => encodeR .FEXP a b c
  | .push a => encodeR .PUSH a 0 0
  | .pop a => encodeR .POP a 0 0
  | .mov a b => encodeR .MOV a b 0
  | .loadg a u => encodeU .LOADG a u
  | .setg a u => encodeU .SETG a u
  | .movimm16 a u => encodeU .MOVIMM16 a u
  | .cmp a b => encodeR .CMP a b 0
  | .gt a b => encodeR .GT a b 0
  | .gte a b => encodeR .GTE a b 0
  | .je a s => encodeS16 .JE a s
  | .jmp s => encodeS24 .JMP s
  | .call u => encodeU .CALL 0 u
  | .ret a => encodeR .RET a 0 0
  | .loadret a => encodeR .LOADRET a 0 0
  | .print a => encodeR .PRINT a 0 0
  | .endRun => encodeR .END 0 0 0

end Sys2Proof
end

