-- ==== Sys2Proof/Config.lean ====
section
/-! DEFINITION. The implementation parameters of 00_scope.md R5: plain data that a state carries, and the
free values, constants with no body that no proof can see into. `OPC` is in Decode.lean; `N` and `ENTRY`
are arguments of a run; `STACK_INIT` and `RV_INIT` are arguments of `init` (Machine/HostPort.lean). -/

namespace Sys2Proof

/-- `OVF_POLICY`: what a signed result outside int32 does (R62, D3). -/
inductive OvfPolicy
  | wrap
  | fault
  deriving DecidableEq, Repr

/-- `INT_CONV_FMT`: the format of `float(x)` in SQRT, EXP, SQRTIMM, EXPIMM (R63, D6). -/
inductive ConvFmt
  | binary32
  | binary64
  deriving DecidableEq, Repr

/-- The parameters with a finite choice or a number (R5). A state carries them; `init` sets the first two. -/
structure Params where
  /-- `STACK_CAP` -/
  stackCap : Nat
  /-- `CALL_DEPTH_CAP` -/
  callDepthCap : Nat
  /-- `METHOD_CAP` -/
  methodCap : Nat
  /-- `GLOBAL_CAP` -/
  globalCap : Nat
  /-- `OVF_POLICY` -/
  ovfPolicy : OvfPolicy
  /-- `INT_CONV_FMT` -/
  intConvFmt : ConvFmt
  /-- `LOADRET_PRINTS` -/
  loadretPrints : Bool
  deriving DecidableEq, Repr

/-- The defaults of R5's table. -/
def Params.default : Params where
  stackCap := 1024
  callDepthCap := 1024
  methodCap := 64
  globalCap := 1024
  ovfPolicy := .wrap
  intConvFmt := .binary32
  loadretPrints := false

/-- One of the bit patterns that read as a binary32 NaN: a sign and the non-zero fraction less one (R80). -/
structure NanPattern where
  neg : Bool
  fracPred : Fin 8388607
  deriving DecidableEq, Repr, Inhabited

/-- The pattern as 32 bits: exponent field all ones, fraction not zero. -/
def NanPattern.word (p : NanPattern) : Word :=
  BitVec.ofNat 32 ((if p.neg then 2147483648 else 0) + 2139095040 + (p.fracPred.val + 1))

/-- `NAN_BITS`, draw number `n`: any NaN pattern (R5, R80, D9; log 6). Free. -/
opaque Config.nanBits : Nat → NanPattern

/-- `FPOW` in binary32 where `FPOW_EXACT_INT` does not pin it, on the operands' bits (D7; log 5). Free. -/
opaque Config.fpow32 : BitVec 32 → BitVec 32 → BitVec 32

/-- `FPOW` in binary64 where `FPOW_EXACT_INT` does not pin it, on the operands' bits (D7; log 5). Free. -/
opaque Config.fpow64 : BitVec 64 → BitVec 64 → BitVec 64

end Sys2Proof
end

