-- ==== Sys2Proof/Machine/State.lean ====
section
/-! DEFINITION. The state of the core (10_state.md R12), its value after reset (70_reset_and_hazards.md
R119) and the reasons a step can stop. Plain data throughout. -/

namespace Sys2Proof.Machine

/-- A word memory as (index, word) pairs in canonical form: indices strictly rising, no entry equal to
what an unlisted index reads as (log 12). -/
abbrev Memory := List (Nat × Word)

/-- A method descriptor; the three fields are read as int32 (R23). -/
structure MethodDesc where
  entry : Word
  argSize : Word
  localsSize : Word
  deriving DecidableEq, Repr

/-- The method table: an index is registered exactly when it is listed, indices strictly rising (R23). -/
abbrev MethodTable := List (Nat × MethodDesc)

/-- A frame: base pointer, stack pointer, program counter (R14, R20). -/
structure Frame where
  bp : Word
  sp : Word
  pc : Word
  deriving DecidableEq, Repr

/-- The run status (R28). -/
inductive Status
  | uninit
  | idle
  | running
  | halted
  | faulted
  deriving DecidableEq, Repr

/-- The fault kinds of R108, and `aborted`, the kind a host abort records (R114). -/
inductive FaultKind
  | unknownOpcode
  | fetchOutOfRange
  | registerOutOfRange
  | stackOutOfRange
  | globalOutOfRange
  | methodOutOfRange
  | unregisteredMethod
  | callStackOverflow
  | callStackUnderflow
  | divideByZero
  | divideOverflow
  | conversionFault
  | integerOverflow
  | aborted
  deriving DecidableEq, Repr

/-- The numeric codes of R108; an abort has none (R114). -/
def FaultKind.code : FaultKind → Option Nat
  | .unknownOpcode => some 1
  | .fetchOutOfRange => some 2
  | .registerOutOfRange => some 3
  | .stackOutOfRange => some 4
  | .globalOutOfRange => some 5
  | .methodOutOfRange => some 6
  | .unregisteredMethod => some 7
  | .callStackOverflow => some 8
  | .callStackUnderflow => some 9
  | .divideByZero => some 10
  | .divideOverflow => some 11
  | .conversionFault => some 12
  | .integerOverflow => some 13
  | .aborted => none

/-- The fault record: kind, pc of the faulting instruction, its word or none, the info or none
(R28, R111, R114). -/
structure FaultRecord where
  kind : FaultKind
  pc : Word
  word : Option Word
  info : Option Int
  deriving DecidableEq, Repr

/-- A fault an instruction raises before it is taken: `raise Fault(kind, info)` (R10). -/
structure Trap where
  kind : FaultKind
  info : Int
  deriving DecidableEq, Repr

/-- The state: R12's elements, then the run's program (R26), the parameters (R5) and the model's own
count of NaN draws (log 6). -/
structure State where
  /-- `S`, the execution stack (R13). -/
  stack : Memory
  /-- Base pointer (R14). -/
  bp : Word
  /-- Stack pointer (R14). -/
  sp : Word
  /-- Program counter (R14). -/
  pc : Word
  /-- `CS`, the saved frames, most recent last (R20). -/
  cs : List Frame
  /-- `RV`, the return-value register (R21). -/
  rv : Word
  /-- `G`, the global store (R22). -/
  globals : Memory
  /-- `MT`, the method table (R23). -/
  methods : MethodTable
  /-- Instructions completed in the run (R27). -/
  icount : BitVec 64
  /-- Run status (R28). -/
  status : Status
  /-- Fault record of the last faulted run (R28). -/
  fault : Option FaultRecord
  /-- `OUT`, the values printed, oldest first (R25). -/
  out : List Int
  /-- `PROG`, the program of the run; its length is `N` (R26). -/
  prog : List Word
  /-- The parameters (R5). -/
  cfg : Params
  /-- MODEL's own: how many NaN results have been written (log 6). -/
  nanDraws : Nat
  deriving DecidableEq, Repr

/-- No constructor: the spec describes the entry of every fault it names (R111), and the model takes it
as a next state; no step stops with a fault (log 8). -/
inductive Fault
  deriving DecidableEq, Repr

/-- Why a step is refused. -/
inductive Refusal
  /-- Raised by an arm of `exec` whose instruction has no meaning yet; safe: the model stops. No arm of
  this model raises it. -/
  | notModelled (mnemonic : String)
  deriving DecidableEq, Repr

/-! Field updates; Laws/State.lean holds one lemma per field for each. -/

def State.setStack (s : State) (m : Memory) : State := { s with stack := m }
def State.setSp (s : State) (v : Word) : State := { s with sp := v }
def State.setPc (s : State) (v : Word) : State := { s with pc := v }
def State.setFrame (s : State) (f : Frame) : State := { s with bp := f.bp, sp := f.sp, pc := f.pc }
def State.setCs (s : State) (l : List Frame) : State := { s with cs := l }
def State.setRv (s : State) (v : Word) : State := { s with rv := v }
def State.setGlobals (s : State) (m : Memory) : State := { s with globals := m }
def State.setMethods (s : State) (t : MethodTable) : State := { s with methods := t }
def State.setIcount (s : State) (n : BitVec 64) : State := { s with icount := n }
def State.setStatus (s : State) (t : Status) : State := { s with status := t }
def State.setFault (s : State) (r : Option FaultRecord) : State := { s with fault := r }
def State.setOut (s : State) (o : List Int) : State := { s with out := o }
def State.setNanDraws (s : State) (n : Nat) : State := { s with nanDraws := n }

/-- The current frame (R14). -/
def State.frame (s : State) : Frame := ⟨s.bp, s.sp, s.pc⟩

/-- The machine right after reset: `init(1024, 1024)` with R5's defaults (R12, R119). `STACK_INIT` and
`RV_INIT` are draws there; here every slot and `RV` hold 0 (DESIGN CHOICE, logs 3 and 4). -/
def State.reset : State where
  stack := []
  bp := 0
  sp := 0
  pc := 0
  cs := []
  rv := 0
  globals := []
  methods := []
  icount := 0
  status := .idle
  fault := none
  out := []
  prog := []
  cfg := Params.default
  nanDraws := 0

end Sys2Proof.Machine
end

