-- ==== Sys2Proof/Machine/Ops.lean ====
section
/-! DEFINITION. The named operations every meaning is made of: word memories, the method table, the
register window, the frame stack, the output channel, and what surrounds an instruction's effect: the
advance of `pc`, the count of a completed instruction, and taking a fault (R111). -/

namespace Sys2Proof.Machine

/-! Sparse stores: lists of (index, value) with indices strictly rising. -/

/-- The value listed at an index, if any. -/
def lookup {α : Type} : List (Nat × α) → Nat → Option α
  | [], _ => none
  | (b, v) :: m, a => if a = b then some v else lookup m a

/-- List a value at an index, in place of the one listed there. -/
def insertAt {α : Type} : List (Nat × α) → Nat → α → List (Nat × α)
  | [], a, v => [(a, v)]
  | (b, w) :: m, a, v =>
    if a < b then (a, v) :: (b, w) :: m
    else if a = b then (a, v) :: m
    else (b, w) :: insertAt m a v

/-- List nothing at an index. -/
def removeAt {α : Type} : List (Nat × α) → Nat → List (Nat × α)
  | [], _ => []
  | (b, w) :: m, a => if a = b then m else (b, w) :: removeAt m a

/-- Indices strictly rising. -/
abbrev Rising {α : Type} (m : List (Nat × α)) : Prop := m.Pairwise (fun x y => x.1 < y.1)

/-- What an index that is not listed reads as: 0, by R22 for the global store, and for the execution stack
by the model's choice of the `STACK_INIT` draws at reset (log 3). -/
def unlisted : Word := 0

/-- `MemRead(space, addr, 1)` (R31). -/
def Memory.read (m : Memory) (a : Nat) : Word := (lookup m a).getD unlisted

/-- `MemWrite(space, addr, 1, v)` (R31); keeps the canonical form. -/
def Memory.write (m : Memory) (a : Nat) (v : Word) : Memory :=
  if v = unlisted then removeAt m a else insertAt m a v

/-- The canonical form of a word memory (log 12). -/
abbrev Memory.wf (m : Memory) : Prop := Rising m ∧ ∀ c ∈ m, c.2 ≠ unlisted

/-- Every listed index is below a capacity (R35). -/
abbrev Below {α : Type} (m : List (Nat × α)) (cap : Nat) : Prop := ∀ c ∈ m, c.1 < cap

/-! The register window and the stack slots. -/

/-- An index into the execution stack, range-checked; `kind` is the fault of the kind of access (R16, R17). -/
def State.slot (s : State) (kind : FaultKind) (a : Int) : Except Trap Nat :=
  if a < 0 ∨ (s.cfg.stackCap : Int) ≤ a then .error ⟨kind, a⟩ else .ok a.toNat

/-- `RegAddr(N)`: the slot of window register `N` of the current frame (R15, R16). -/
def State.regAddr (s : State) (n : Nat) : Except Trap Nat :=
  s.slot .registerOutOfRange (int32 s.bp + n)

/-- `x[N]` (R16). -/
def State.readReg (s : State) (n : Nat) : Except Trap Word := do
  let a ← s.regAddr n
  .ok (s.stack.read a)

/-- `x[N] <- v` (R16). -/
def State.writeReg (s : State) (n : Nat) (v : Word) : Except Trap State := do
  let a ← s.regAddr n
  .ok (s.setStack (s.stack.write a v))

/-- A slot reached through the stack pointer, by PUSH or POP (R17). -/
def State.stackSlot (s : State) (a : Int) : Except Trap Nat := s.slot .stackOutOfRange a

/-! The global store and the method table. -/

/-- A global index, range-checked (R22). -/
def State.globalIndex (s : State) (i : Nat) : Except Trap Nat :=
  if s.cfg.globalCap ≤ i then .error ⟨.globalOutOfRange, i⟩ else .ok i

/-- The descriptor CALL reads, after its two checks (R101). -/
def State.method (s : State) (k : Nat) : Except Trap MethodDesc :=
  if s.cfg.methodCap ≤ k then .error ⟨.methodOutOfRange, k⟩
  else
    match lookup s.methods k with
    | none => .error ⟨.unregisteredMethod, k⟩
    | some d => .ok d

/-! The frame stack. -/

/-- Push the current frame onto `CS` (R20, R101); `k` is the index the overflow fault reports. -/
def State.pushFrame (s : State) (k : Nat) : Except Trap State :=
  if s.cs.length = s.cfg.callDepthCap then .error ⟨.callStackOverflow, k⟩
  else .ok (s.setCs (s.cs ++ [s.frame]))

/-- Pop the most recently pushed frame of `CS` into the current frame (R20, R102); `pc0` is what the
underflow fault reports. -/
def State.popFrame (s : State) (pc0 : Int) : Except Trap State :=
  match s.cs.getLast? with
  | none => .error ⟨.callStackUnderflow, pc0⟩
  | some f => .ok ((s.setFrame f).setCs s.cs.dropLast)

/-- The window a CALL opens: the pushed arguments become the callee's first registers (R101, C2). -/
def calleeFrame (sp : Word) (d : MethodDesc) : Frame where
  bp := wrap32 (int32 sp - int32 d.argSize + 1)
  sp := wrap32 (int32 sp - int32 d.argSize + int32 d.localsSize)
  pc := d.entry

/-! Output and the program counter. -/

/-- `Out(v)`: append a value to the output channel (R10, R25). -/
def State.emit (s : State) (v : Int) : State := s.setOut (s.out ++ [v])

/-- `pc <- wrap32(int32(pc) + k)`: the advance, a skip, a relative branch (R19, R56). -/
def State.addPc (s : State) (k : Int) : State := s.setPc (wrap32 (int32 s.pc + k))

/-- The word at `pc`, none where `pc` is outside the program (R55). -/
def State.fetch (s : State) : Option Word :=
  if int32 s.pc < 0 then none else s.prog[(int32 s.pc).toNat]?

/-! Around an instruction's effect. -/

/-- Taking a fault (R111): nothing of the instruction is written, `pc` is the faulting instruction's
address `pc0` (the state is the one before the step), `icount` does not count it, the status becomes
Faulted and the record holds the kind, `pc0`, the fetched word or none, and the info. There is no return
from it (R113). -/
def State.raiseFault (s : State) (t : Trap) : State :=
  (s.setFault (some ⟨t.kind, s.pc, s.fetch, some t.info⟩)).setStatus .faulted

/-- A completed instruction is counted (R27, R58). -/
def State.count (s : State) : State := s.setIcount (s.icount + 1)

/-- The rest of a step from the advance on (R54, R56, R58, R111): the effect runs on the advanced state
with `pc0` the instruction's address; if it completes the step counts it, if it raises a fault the fault
is taken in the state before the step. -/
def State.perform (s : State) (effect : Int → State → Except Trap State) : State :=
  match effect (int32 s.pc) (s.addPc 1) with
  | .ok s' => s'.count
  | .error t => s.raiseFault t

end Sys2Proof.Machine
end

