-- ==== Sys2Proof/Machine/Operands.lean ====
section
/-! DEFINITION. The operand forms: a register read as an integer or as a float, a zero-extended immediate,
and the destination written with an integer, a raw word or a float (41_int_arith.md R62 to R64, R72, R80). -/

namespace Sys2Proof.Machine

/-- `int32(x[N])`: a register as an integer operand (R13, R62). -/
def State.readInt (s : State) (n : Nat) : Except Trap Int := do
  let w ← s.readReg n
  .ok (int32 w)

/-- `asF32(b)` (R9). -/
def asF32 (b : Word) : FVal := unpack binary32 b.toNat

/-- `bitsF32(v)` for a number (R9); a NaN's bits are a draw, see `State.writeF32`. -/
def bitsF32 (v : FNum) : Word := BitVec.ofNat 32 (pack binary32 v)

/-- `asF32(x[N])`: a register as a float operand (R13, R80). -/
def State.readF32 (s : State) (n : Nat) : Except Trap FVal := do
  let w ← s.readReg n
  .ok (asF32 w)

/-- `zext_16(u16)`: an unsigned immediate as a 32-bit pattern (R8, R43). -/
def zext16 (u16 : Nat) : Word := BitVec.ofNat 32 u16

/-- Write an integer instruction's destination: `r` is its result or the arithmetic fault it raises, which
the pseudocode raises before it writes rA (R62, R68; R110 (3), D17). -/
def State.writeResult (s : State) (n : Nat) (r : Except Trap Int) : Except Trap State := do
  let v ← r
  s.writeReg n (wrap32 v)

/-- The overflow policy on an exact result (R62). -/
def State.overflow (s : State) (v : Int) : Except Trap Int :=
  if s.cfg.ovfPolicy = .fault ∧ ¬ inInt32 v then .error ⟨.integerOverflow, v⟩ else .ok v

/-- `WriteInt(N, v)` (R62). -/
def State.writeInt (s : State) (n : Nat) (v : Int) : Except Trap State :=
  s.writeResult n (s.overflow v)

/-- Write a float destination: a number's bits, or for a NaN the next `NAN_BITS` draw (R80; log 6). -/
def State.writeF32 (s : State) (n : Nat) : FVal → Except Trap State
  | some v => s.writeReg n (bitsF32 v)
  | none => do
    let s' ← s.writeReg n (Config.nanBits s.nanDraws).word
    .ok (s'.setNanDraws (s.nanDraws + 1))

/-- `INT_CONV_FMT` as a format (R63). -/
def State.convFormat (s : State) : FloatFormat :=
  match s.cfg.intConvFmt with
  | .binary32 => binary32
  | .binary64 => binary64

/-- `truncI(f)`: toward zero, with `ConversionFault` where there is no int32 value (R64). -/
def truncOrFault (pc0 : Int) (v : FVal) : Except Trap Int :=
  match truncI v with
  | some t => .ok t
  | none => .error ⟨.conversionFault, pc0⟩

/-- `FPOW32` on bit patterns (R87, D7). -/
def fpow32 (a b : Word) : FVal :=
  fpow binary32 (Config.fpow32 a b).toNat (asF32 a) (asF32 b)

/-- `FPOW(toF(a), toF(b))` in the format `INT_CONV_FMT` (R71, R79, D7). -/
def intPow (fmt : ConvFmt) (a b : Int) : FVal :=
  match fmt with
  | .binary32 => fpow32 (bitsF32 (toF binary32 a)) (bitsF32 (toF binary32 b))
  | .binary64 =>
    fpow binary64
      (Config.fpow64 (BitVec.ofNat 64 (pack binary64 (toF binary64 a)))
        (BitVec.ofNat 64 (pack binary64 (toF binary64 b)))).toNat
      (some (toF binary64 a)) (some (toF binary64 b))

/-- The quotient of DIV and DIVIMM, rounded toward zero, with its two faults (R68, R76). -/
def divide (pc0 a b : Int) : Except Trap Int :=
  if b = 0 then .error ⟨.divideByZero, pc0⟩
  else if a = -2147483648 ∧ b = -1 then .error ⟨.divideOverflow, pc0⟩
  else .ok (a.tdiv b)

/-- The remainder of MOD and MODIMM, with the sign of the dividend, and its two faults (R69, R77). -/
def modulo (pc0 a b : Int) : Except Trap Int :=
  if b = 0 then .error ⟨.divideByZero, pc0⟩
  else if a = -2147483648 ∧ b = -1 then .error ⟨.divideOverflow, pc0⟩
  else .ok (a - b * a.tdiv b)

/-- The result of SQRT and SQRTIMM: `truncI(sqrtF(toF(a)))` (R70, R78). -/
def intSqrt (fmt : FloatFormat) (pc0 a : Int) : Except Trap Int :=
  truncOrFault pc0 (fsqrt fmt (some (toF fmt a)))

/-- The result of EXP and EXPIMM: `truncI(FPOW(toF(a), toF(b)))` (R71, R79). -/
def intExp (fmt : ConvFmt) (pc0 a b : Int) : Except Trap Int :=
  truncOrFault pc0 (intPow fmt a b)

end Sys2Proof.Machine
end

