-- ==== Sys2Proof/Machine/CallReturn.lean ====
section
/-! DEFINITION. Calls and returns: the frame-stack manager's two transitions and LOADRET
(46_call_return.md R101 to R105). -/

namespace Sys2Proof.Machine

/-- CALL (R101). The frame pushed holds the advanced `pc`, the instruction after the CALL. -/
def execCall (u16 : Nat) (s : State) : Host.Outcome State Fault Refusal :=
  .next (s.perform fun _ s => do
    let d ← s.method u16
    let s' ← s.pushFrame u16
    .ok (s'.setFrame (calleeFrame s.sp d)))

/-- RET (R102). The operand is read through the callee's base pointer. -/
def execRet (rA : Nat) (s : State) : Host.Outcome State Fault Refusal :=
  .next (s.perform fun pc0 s => do
    let v ← s.readReg rA
    let s' ← s.popFrame pc0
    .ok (s'.setRv v))

/-- LOADRET (R103). -/
def execLoadret (rA : Nat) (s : State) : Host.Outcome State Fault Refusal :=
  .next (s.perform fun _ s => do
    let s' ← s.writeReg rA s.rv
    .ok (if s.cfg.loadretPrints then s'.emit (int32 s.rv) else s'))

end Sys2Proof.Machine
end

