-- ==== Sys2Proof/Machine/Flags.lean ====
section
/-! DEFINITION. The core has no flags, condition codes or predicate registers, and no instruction has a
flag side effect (10_state.md R24). This file holds what stands in their place: the conditions of the
comparisons and of JE, and the skip (45_compare_branch.md R94 to R98). -/

namespace Sys2Proof.Machine

/-- CMP's condition: equal int32 readings, so equal bits (R95). -/
def cmpCond (a b : Int) : Bool := a = b

/-- GT's condition, signed (R94, R96). -/
def gtCond (a b : Int) : Bool := b < a

/-- GTE's condition, signed (R94, R97). -/
def gteCond (a b : Int) : Bool := b ≤ a

/-- JE's condition: not zero (R98, C4). -/
def jeCond (a : Int) : Bool := a ≠ 0

/-- `skip`: one further advance of `pc` where the condition holds (R10, R94). -/
def State.skipIf (s : State) (c : Bool) : State := if c then s.addPc 1 else s

end Sys2Proof.Machine
end

