-- ==== Sys2Proof/Machine/CompareBranch.lean ====
section
/-! DEFINITION. Comparisons and branches (45_compare_branch.md R94 to R100). No target is checked here
(R100); the next fetch checks `pc`. -/

namespace Sys2Proof.Machine

/-- CMP (R95). -/
def execCmp (rA rB : Nat) (s : State) : Host.Outcome State Fault Refusal :=
  .next (s.perform fun _ s => do
    let a ← s.readInt rA
    let b ← s.readInt rB
    .ok (s.skipIf (cmpCond a b)))

/-- GT (R96). -/
def execGt (rA rB : Nat) (s : State) : Host.Outcome State Fault Refusal :=
  .next (s.perform fun _ s => do
    let a ← s.readInt rA
    let b ← s.readInt rB
    .ok (s.skipIf (gtCond a b)))

/-- GTE (R97). -/
def execGte (rA rB : Nat) (s : State) : Host.Outcome State Fault Refusal :=
  .next (s.perform fun _ s => do
    let a ← s.readInt rA
    let b ← s.readInt rB
    .ok (s.skipIf (gteCond a b)))

/-- JE (R98). -/
def execJe (rA : Nat) (s16 : Int) (s : State) : Host.Outcome State Fault Refusal :=
  .next (s.perform fun _ s => do
    let a ← s.readInt rA
    .ok (if jeCond a then s.addPc s16 else s))

/-- JMP (R99). -/
def execJmp (s24 : Int) (s : State) : Host.Outcome State Fault Refusal :=
  .next (s.perform fun _ s => .ok (s.addPc s24))

end Sys2Proof.Machine
end

