-- ==== Sys2Proof/Machine/FloatArith.lean ====
section
/-! DEFINITION. Float arithmetic on the slots' binary32 readings (43_float_arith.md R80 to R87). -/

namespace Sys2Proof.Machine

/-- FADD (R81). -/
def execFadd (rA rB rC : Nat) (s : State) : Host.Outcome State Fault Refusal :=
  .next (s.perform fun _ s => do
    let b ← s.readF32 rB
    let c ← s.readF32 rC
    s.writeF32 rA (fadd binary32 b c))

/-- FSUB (R82). -/
def execFsub (rA rB rC : Nat) (s : State) : Host.Outcome State Fault Refusal :=
  .next (s.perform fun _ s => do
    let b ← s.readF32 rB
    let c ← s.readF32 rC
    s.writeF32 rA (fsub binary32 b c))

/-- FMUL (R83). -/
def execFmul (rA rB rC : Nat) (s : State) : Host.Outcome State Fault Refusal :=
  .next (s.perform fun _ s => do
    let b ← s.readF32 rB
    let c ← s.readF32 rC
    s.writeF32 rA (fmul binary32 b c))

/-- FDIV (R84). -/
def execFdiv (rA rB rC : Nat) (s : State) : Host.Outcome State Fault Refusal :=
  .next (s.perform fun _ s => do
    let b ← s.readF32 rB
    let c ← s.readF32 rC
    s.writeF32 rA (fdiv binary32 b c))

/-- FMOD (R85). -/
def execFmod (rA rB rC : Nat) (s : State) : Host.Outcome State Fault Refusal :=
  .next (s.perform fun _ s => do
    let b ← s.readF32 rB
    let c ← s.readF32 rC
    s.writeF32 rA (fmod binary32 b c))

/-- FSQRT (R86). -/
def execFsqrt (rA rB : Nat) (s : State) : Host.Outcome State Fault Refusal :=
  .next (s.perform fun _ s => do
    let b ← s.readF32 rB
    s.writeF32 rA (fsqrt binary32 b))

/-- FEXP (R87). -/
def execFexp (rA rB rC : Nat) (s : State) : Host.Outcome State Fault Refusal :=
  .next (s.perform fun _ s => do
    let b ← s.readReg rB
    let c ← s.readReg rC
    s.writeF32 rA (fpow32 b c))

end Sys2Proof.Machine
end

