-- ==== Sys2Proof/Machine/IntArith.lean ====
section
/-! DEFINITION. Integer register arithmetic (41_int_arith.md R65 to R71). -/

namespace Sys2Proof.Machine

/-- ADD (R65). -/
def execAdd (rA rB rC : Nat) (s : State) : Host.Outcome State Fault Refusal :=
  .next (s.perform fun _ s => do
    let a ← s.readInt rB
    let b ← s.readInt rC
    s.writeInt rA (a + b))

/-- SUB (R66). -/
def execSub (rA rB rC : Nat) (s : State) : Host.Outcome State Fault Refusal :=
  .next (s.perform fun _ s => do
    let a ← s.readInt rB
    let b ← s.readInt rC
    s.writeInt rA (a - b))

/-- MUL (R67). -/
def execMul (rA rB rC : Nat) (s : State) : Host.Outcome State Fault Refusal :=
  .next (s.perform fun _ s => do
    let a ← s.readInt rB
    let b ← s.readInt rC
    s.writeInt rA (a * b))

/-- DIV (R68). -/
def execDiv (rA rB rC : Nat) (s : State) : Host.Outcome State Fault Refusal :=
  .next (s.perform fun pc0 s => do
    let a ← s.readInt rB
    let b ← s.readInt rC
    s.writeResult rA (divide pc0 a b))

/-- MOD (R69). -/
def execMod (rA rB rC : Nat) (s : State) : Host.Outcome State Fault Refusal :=
  .next (s.perform fun pc0 s => do
    let a ← s.readInt rB
    let b ← s.readInt rC
    s.writeResult rA (modulo pc0 a b))

/-- SQRT (R70). -/
def execSqrt (rA rB : Nat) (s : State) : Host.Outcome State Fault Refusal :=
  .next (s.perform fun pc0 s => do
    let a ← s.readInt rB
    s.writeResult rA (intSqrt s.convFormat pc0 a))

/-- EXP (R71). -/
def execExp (rA rB rC : Nat) (s : State) : Host.Outcome State Fault Refusal :=
  .next (s.perform fun pc0 s => do
    let a ← s.readInt rB
    let b ← s.readInt rC
    s.writeResult rA (intExp s.cfg.intConvFmt pc0 a b))

end Sys2Proof.Machine
end

