-- ==== Sys2Proof/Machine/IntImm.lean ====
section
/-! DEFINITION. Integer-immediate arithmetic (42_int_imm_arith.md R72 to R79). The immediate is an unsigned
16-bit number, used as a non-negative integer (R72). -/

namespace Sys2Proof.Machine

/-- ADDIMM (R73). -/
def execAddimm (rA u16 : Nat) (s : State) : Host.Outcome State Fault Refusal :=
  .next (s.perform fun _ s => do
    let a ← s.readInt rA
    s.writeInt rA (a + u16))

/-- SUBIMM (R74). -/
def execSubimm (rA u16 : Nat) (s : State) : Host.Outcome State Fault Refusal :=
  .next (s.perform fun _ s => do
    let a ← s.readInt rA
    s.writeInt rA (a - u16))

/-- MULIMM (R75). -/
def execMulimm (rA u16 : Nat) (s : State) : Host.Outcome State Fault Refusal :=
  .next (s.perform fun _ s => do
    let a ← s.readInt rA
    s.writeInt rA (a * u16))

/-- DIVIMM (R76). The divisor is not negative, so `DivideOverflow` cannot arise. -/
def execDivimm (rA u16 : Nat) (s : State) : Host.Outcome State Fault Refusal :=
  .next (s.perform fun pc0 s => do
    let a ← s.readInt rA
    s.writeResult rA (divide pc0 a u16))

/-- MODIMM (R77). -/
def execModimm (rA u16 : Nat) (s : State) : Host.Outcome State Fault Refusal :=
  .next (s.perform fun pc0 s => do
    let a ← s.readInt rA
    s.writeResult rA (modulo pc0 a u16))

/-- SQRTIMM (R78): rA is written, not read. -/
def execSqrtimm (rA u16 : Nat) (s : State) : Host.Outcome State Fault Refusal :=
  .next (s.perform fun pc0 s => s.writeResult rA (intSqrt s.convFormat pc0 u16))

/-- EXPIMM (R79). -/
def execExpimm (rA u16 : Nat) (s : State) : Host.Outcome State Fault Refusal :=
  .next (s.perform fun pc0 s => do
    let a ← s.readInt rA
    s.writeResult rA (intExp s.cfg.intConvFmt pc0 a u16))

end Sys2Proof.Machine
end

