-- ==== Sys2Proof/Machine/OutputHalt.lean ====
section
/-! DEFINITION. Output and termination (47_output_halt.md R106, R107). -/

namespace Sys2Proof.Machine

/-- PRINT (R106). -/
def execPrint (rA : Nat) (s : State) : Host.Outcome State Fault Refusal :=
  .next (s.perform fun _ s => do
    let v ← s.readInt rA
    .ok (s.emit v))

/-- END (R107): the step counts it and the status becomes Halted (R54, R59). -/
def execEndRun (s : State) : Host.Outcome State Fault Refusal :=
  .next (s.perform fun _ s => .ok (s.setStatus .halted))

end Sys2Proof.Machine
end

