-- ==== Sys2Proof/Machine/StackMove.lean ====
section
/-! DEFINITION. Stack, move and global-store operations (44_stack_move_global.md R88 to R93). -/

namespace Sys2Proof.Machine

/-- PUSH (R88). -/
def execPush (rA : Nat) (s : State) : Host.Outcome State Fault Refusal :=
  .next (s.perform fun _ s => do
    let v ← s.readReg rA
    let t ← s.stackSlot (int32 s.sp + 1)
    .ok ((s.setStack (s.stack.write t v)).setSp (wrap32 (int32 s.sp + 1))))

/-- POP (R89). -/
def execPop (rA : Nat) (s : State) : Host.Outcome State Fault Refusal :=
  .next (s.perform fun _ s => do
    let t ← s.stackSlot (int32 s.sp)
    let s' ← s.writeReg rA (s.stack.read t)
    .ok (s'.setSp (wrap32 (int32 s.sp - 1))))

/-- MOV (R90). -/
def execMov (rA rB : Nat) (s : State) : Host.Outcome State Fault Refusal :=
  .next (s.perform fun _ s => do
    let v ← s.readReg rB
    s.writeReg rA v)

/-- LOADG (R91). -/
def execLoadg (rA u16 : Nat) (s : State) : Host.Outcome State Fault Refusal :=
  .next (s.perform fun _ s => do
    let i ← s.globalIndex u16
    s.writeReg rA (s.globals.read i))

/-- SETG (R92). -/
def execSetg (rA u16 : Nat) (s : State) : Host.Outcome State Fault Refusal :=
  .next (s.perform fun _ s => do
    let v ← s.readReg rA
    let i ← s.globalIndex u16
    .ok (s.setGlobals (s.globals.write i v)))

/-- MOVIMM16 (R93). -/
def execMovimm16 (rA u16 : Nat) (s : State) : Host.Outcome State Fault Refusal :=
  .next (s.perform fun _ s => s.writeReg rA (zext16 u16))

end Sys2Proof.Machine
end

