-- ==== Sys2Proof/Machine/Dispatch.lean ====
section
/-! DEFINITION. The exhaustive branch over the instructions: one arm, one meaning (40_dispatch_loop.md R57). -/

namespace Sys2Proof.Machine

-- One arm per constructor of Instr (R57).
def exec (i : Instr) (s : State) : Host.Outcome State Fault Refusal :=
  match i with
  | .add rA rB rC => Sys2Proof.Machine.execAdd rA rB rC s
  | .sub rA rB rC => Sys2Proof.Machine.execSub rA rB rC s
  | .mul rA rB rC => Sys2Proof.Machine.execMul rA rB rC s
  | .div rA rB rC => Sys2Proof.Machine.execDiv rA rB rC s
  | .mod rA rB rC => Sys2Proof.Machine.execMod rA rB rC s
  | .sqrt rA rB => Sys2Proof.Machine.execSqrt rA rB s
  | .exp rA rB rC => Sys2Proof.Machine.execExp rA rB rC s
  | .addimm rA u16 => Sys2Proof.Machine.execAddimm rA u16 s
  | .subimm rA u16 => Sys2Proof.Machine.execSubimm rA u16 s
  | .mulimm rA u16 => Sys2Proof.Machine.execMulimm rA u16 s
  | .divimm rA u16 => Sys2Proof.Machine.execDivimm rA u16 s
  | .modimm rA u16 => Sys2Proof.Machine.execModimm rA u16 s
  | .sqrtimm rA u16 => Sys2Proof.Machine.execSqrtimm rA u16 s
  | .expimm rA u16 => Sys2Proof.Machine.execExpimm rA u16 s
  | .fadd rA rB rC => Sys2Proof.Machine.execFadd rA rB rC s
  | .fsub rA rB rC => Sys2Proof.Machine.execFsub rA rB rC s
  | .fmul rA rB rC => Sys2Proof.Machine.execFmul rA rB rC s
  | .fdiv rA rB rC => Sys2Proof.Machine.execFdiv rA rB rC s
  | .fmod rA rB rC => Sys2Proof.Machine.execFmod rA rB rC s
  | .fsqrt rA rB => Sys2Proof.Machine.execFsqrt rA rB s
  | .fexp rA rB rC => Sys2Proof.Machine.execFexp rA rB rC s
  | .push rA => Sys2Proof.Machine.execPush rA s
  | .pop rA => Sys2Proof.Machine.execPop rA s
  | .mov rA rB => Sys2Proof.Machine.execMov rA rB s
  | .loadg rA u16 => Sys2Proof.Machine.execLoadg rA u16 s
  | .setg rA u16 => Sys2Proof.Machine.execSetg rA u16 s
  | .movimm16 rA u16 => Sys2Proof.Machine.execMovimm16 rA u16 s
  | .cmp rA rB => Sys2Proof.Machine.execCmp rA rB s
  | .gt rA rB => Sys2Proof.Machine.execGt rA rB s
  | .gte rA rB => Sys2Proof.Machine.execGte rA rB s
  | .je rA s16 => Sys2Proof.Machine.execJe rA s16 s
  | .jmp s24 => Sys2Proof.Machine.execJmp s24 s
  | .call u16 => Sys2Proof.Machine.execCall u16 s
  | .ret rA => Sys2Proof.Machine.execRet rA s
  | .loadret rA => Sys2Proof.Machine.execLoadret rA s
  | .print rA => Sys2Proof.Machine.execPrint rA s
  | .endRun => Sys2Proof.Machine.execEndRun s

end Sys2Proof.Machine
end

