-- ==== Sys2Proof/Machine/Step.lean ====
section
/-! DEFINITION. The step of the core: fetch, advance, decode, execute, count (40_dispatch_loop.md R54), and
how a table word is placed where the next step fetches it. -/

namespace Sys2Proof.Machine

/-- One step (R54). While the core is Running: a `pc` outside the program faults before anything else
(R55), a word with an unassigned opcode faults after the fetch (R57), any other word's instruction is
executed; the meanings advance `pc` and count (`State.perform`). A core that is not Running performs no
step: its state stays as it is until the host acts (R54, R113; log 8). -/
def step (s : State) : Host.Outcome State Fault Refusal :=
  if s.status = .running then
    match s.fetch with
    | none => .next (s.raiseFault ⟨.fetchOutOfRange, int32 s.pc⟩)
    | some w =>
      match decode w with
      | .unknown op => .next (s.raiseFault ⟨.unknownOpcode, op⟩)
      | .instr i => exec i s
  else .next s

/-- The state with a one-word program whose word is the given instruction, `pc` at it and the core Running,
so that the next step runs exactly it (log 9). -/
def State.withFetchWord (s : State) (nbits w : Nat) : State :=
  { s with prog := [BitVec.ofNat 32 (w % 2 ^ nbits)], pc := 0, status := .running }

end Sys2Proof.Machine
end

