-- ==== Sys2Proof/Machine/FloatValue.lean ====
section
/-! DEFINITION. What float statements are said in: the rational value of a number, the significands a format
holds, and nearest-with-ties-to-even (43_float_arith.md R80). Nothing here is executed. -/

namespace Sys2Proof.Machine

/-- The value of `±mant · 2^exp`; an infinity has none and is given 0, which no statement uses. -/
def FNum.value : FNum → ℚ
  | .inf _ => 0
  | .fin neg m e => (if neg then -1 else 1) * m * 2 ^ e

/-- `m · 2^e` as the format writes it: significand and exponent in range, and a significand without its
leading bit only at the least exponent (zero and the subnormals). -/
abbrev Canonical (f : FloatFormat) (m : Nat) (e : Int) : Prop :=
  f.eMin ≤ e ∧ e ≤ f.eMax ∧ m < 2 ^ (f.fracBits + 1) ∧ (2 ^ f.fracBits ≤ m ∨ e = f.eMin)

/-- `m · 2^e` is the number of the format nearest to the non-negative real `q`, and has an even
significand where another number is as near (R80). -/
def NearestEven (f : FloatFormat) (q : ℝ) (m : Nat) (e : Int) : Prop :=
  Canonical f m e ∧
    ∀ (m' : Nat) (e' : Int), Canonical f m' e' →
      |q - (m : ℝ) * 2 ^ e| ≤ |q - (m' : ℝ) * 2 ^ e'| ∧
        (|q - (m : ℝ) * 2 ^ e| = |q - (m' : ℝ) * 2 ^ e'| → (m : ℝ) * 2 ^ e ≠ (m' : ℝ) * 2 ^ e' →
          m % 2 = 0)

/-- The least value that rounds to an infinity: halfway from the largest finite number to the next power
of 2. -/
def FloatFormat.overflowAt (f : FloatFormat) : ℚ := (2 ^ (f.fracBits + 2) - 1) * 2 ^ (f.eMax - 1)

/-- A rational rounded to the format, `neg` giving the sign of the result. -/
def roundRat (f : FloatFormat) (neg : Bool) (q : ℚ) : FNum := roundRatio f neg q.num.natAbs q.den

/-- A rational without its fraction, toward zero (R64). -/
def truncRat (q : ℚ) : Int := if q < 0 then ⌈q⌉ else ⌊q⌋

end Sys2Proof.Machine
end

