-- ==== Sys2Proof/Machine/HostPort.lean ====
section
/-! DEFINITION. The host interface: each call of the host is one transaction of the core, a total function
of the state (70_reset_and_hazards.md R119 to R125, 60_exceptions.md R112, R114). An error changes nothing. -/

namespace Sys2Proof.Machine

/-- The errors of the host interface, named results (R120 to R123, D30). -/
inductive HostError
  | notInitialized
  | indexOutOfRange
  | noProgram
  deriving DecidableEq, Repr

/-- What a run returns to the host when it ends (R112, R114, R124). -/
inductive RunResult
  /-- After END: the number of instructions executed. -/
  | executed (icount : BitVec 64)
  /-- After a fault: code, kind, pc0, word, info and the instructions completed before it. -/
  | faultReport (code : Option Nat) (kind : FaultKind) (pc0 : Word) (word : Option Word)
      (info : Option Int) (icount : BitVec 64)
  /-- After a host abort. -/
  | aborted (icount : BitVec 64)
  deriving DecidableEq, Repr

/-- The word memory holding `f i` at every index `i` below `n`, in canonical form. -/
def Memory.tabulate (f : Nat → Word) : Nat → Memory
  | 0 => []
  | n + 1 => (Memory.tabulate f n).write n (f n)

/-- `init`, the core's reset (R119): legal in any status, always succeeds. `stackInit` and `rvInit` are the
draws `STACK_INIT` and `RV_INIT` of this reset (R5, D20). The other parameters keep their configured
values; the NaN draws go on, so that no draw is used twice. -/
def hostInit (stackCapHint callDepthHint : Nat) (stackInit : Nat → Word) (rvInit : Word) (s : State) :
    State where
  stack := Memory.tabulate stackInit stackCapHint
  bp := 0
  sp := 0
  pc := 0
  cs := []
  rv := rvInit
  globals := []
  methods := []
  icount := 0
  status := .idle
  fault := none
  out := []
  prog := []
  cfg := { s.cfg with stackCap := stackCapHint, callDepthCap := callDepthHint }
  nanDraws := s.nanDraws

/-- The statuses in which `setMethod`, `setStack`, `run` and `shutdown` are legal: Idle and Halted (R37, R120,
R121, R123, D22; log 11). -/
def Status.ready : Status → Bool
  | .idle => true
  | .halted => true
  | .uninit => false
  | .running => false
  | .faulted => false

/-- `setMethod(descriptor, index)` (R120): no field is validated, a second registration replaces the first. -/
def hostSetMethod (d : MethodDesc) (index : Int) (s : State) : Except HostError State :=
  if s.status.ready = false then .error .notInitialized
  else if index < 0 ∨ (s.cfg.methodCap : Int) ≤ index then .error .indexOutOfRange
  else .ok (s.setMethods (insertAt s.methods index.toNat d))

/-- `setStack(index, value)` (R121). -/
def hostSetStack (index : Int) (v : Word) (s : State) : Except HostError State :=
  if s.status.ready = false then .error .notInitialized
  else if index < 0 ∨ (s.cfg.stackCap : Int) ≤ index then .error .indexOutOfRange
  else .ok (s.setStack (s.stack.write index.toNat v))

/-- The start of `run(program, entryOffset)` (R122, R123): the checks, then the entry frame. `S`, `G`, `MT`,
`RV` and `OUT` keep their values; the entry is not checked. -/
def hostRun (program : List Word) (entry : Int) (s : State) : Except HostError State :=
  if s.status.ready = false then .error .notInitialized
  else if program = [] then .error .noProgram
  else .ok { s with
    prog := program, bp := 0, sp := 0, pc := wrap32 entry
    cs := [], icount := 0, fault := none, status := .running }

/-- The host's abort between two steps (R114): the state stays as the last completed step left it, but for
the status and the record. Only a Running core has a run to abort. -/
def hostAbort (s : State) : State :=
  if s.status = .running then
    (s.setFault (some ⟨.aborted, s.pc, none, none⟩)).setStatus .faulted
  else s

/-- `shutdown` (R125): after it every operation but `init` returns `NotInitialized`. Legal between runs, in
Idle and Halted: during a run the host can only abort (R37), and only `init` leaves Faulted (R119, D22). -/
def hostShutdown (s : State) : Except HostError State :=
  if s.status.ready = false then .error .notInitialized else .ok (s.setStatus .uninit)

/-- What a run that has ended returns (R112, R124): none while it is Running or where none was started. -/
def State.runResult (s : State) : Option RunResult :=
  match s.status, s.fault with
  | .halted, _ => some (.executed s.icount)
  | .faulted, some r =>
    match r.kind with
    | .aborted => some (.aborted s.icount)
    | k => some (.faultReport k.code k r.pc r.word r.info s.icount)
  | .faulted, none => none
  | .uninit, _ => none
  | .idle, _ => none
  | .running, _ => none

/-! The text form of the output channel (R25, D25). -/

/-- The decimal digits of a number, without leading zeros; `fuel` bounds their count. -/
def decimalDigits : Nat → Nat → List Char
  | 0, _ => []
  | fuel + 1, n =>
    (if n < 10 then [] else decimalDigits fuel (n / 10)) ++ [Char.ofNat (48 + n % 10)]

/-- One line: the value in signed decimal and a newline, no other framing (R25). -/
def outputLine (v : Int) : List Char :=
  (if v < 0 then ['-'] else []) ++ decimalDigits (v.natAbs + 1) v.natAbs ++ ['\n']

/-- The text the output channel has emitted (R25). -/
def State.outputText (s : State) : List Char := s.out.flatMap outputLine

end Sys2Proof.Machine
end

