-- ==== Sys2Proof/Machine/HostRun.lean ====
section
/-! DEFINITION. A whole run as the host sees it: the start, the steps, and the abort when the host's budget
is spent (70_reset_and_hazards.md R122 to R124, 60_exceptions.md R114, 40_dispatch_loop.md R59). -/

namespace Sys2Proof.Machine

/-- `n` steps. A core that has stopped Running stays as it is; a step never stops with a fault or a
refusal in this model, and one that did would leave the state as it was. -/
def runSteps : Nat → State → State
  | 0, s => s
  | n + 1, s =>
    match step s with
    | .next s' => runSteps n s'
    | .fault _ => s
    | .refused _ => s

/-- `run(program, entryOffset)` under a budget of `budget` instructions (R123, R124): the run goes on to
END, to a fault, or to the host's abort when the budget is spent (R114). The state after it, and with
`State.runResult` what it returns. -/
def hostRunBudget (budget : Nat) (program : List Word) (entry : Int) (s : State) :
    Except HostError State := do
  let s' ← hostRun program entry s
  .ok (hostAbort (runSteps budget s'))

end Sys2Proof.Machine
end

