-- ==== Sys2Proof/Safety.lean ====
section
/-! DEFINITION. What counts as a well-formed state and as a safe run, and the terms statements about
instructions are said in: a register's slot, the state a completed instruction leaves, the state a fault
leaves, and the slot an instruction stores to. -/

namespace Sys2Proof.Machine

/-! Well-formed states and safe runs. -/

/-- The words of both memories and the method table are in canonical form and inside their capacities
(R12, R35; log 12). -/
structure State.MemoryOk (s : State) : Prop where
  stackCanonical : s.stack.wf
  stackInside : Below s.stack s.cfg.stackCap
  globalsCanonical : s.globals.wf
  globalsInside : Below s.globals s.cfg.globalCap
  methodsRising : Rising s.methods
  methodsInside : Below s.methods s.cfg.methodCap

/-- The state's invariant: memories well formed, the call stack's depth never above its capacity (R20),
every printed value an int32 (R25), a Faulted core holds its record and a Running core none (R28, R123). -/
structure State.Ok (s : State) : Prop where
  memory : s.MemoryOk
  depth : s.cs.length ≤ s.cfg.callDepthCap
  printed : ∀ v ∈ s.out, inInt32 v
  faultedHasRecord : s.status = .faulted → s.fault ≠ none
  runningHasNone : s.status = .running → s.fault = none

/-- A run of `n` steps that has not faulted. -/
def SafeFor (n : Nat) (s : State) : Prop := (runSteps n s).status ≠ .faulted

/-! Registers. -/

/-- Register `n` of the current frame names a slot of the execution stack (R16). -/
abbrev State.hasReg (s : State) (n : Nat) : Prop :=
  0 ≤ int32 s.bp + n ∧ int32 s.bp + n < s.cfg.stackCap

/-- An index the stack pointer gives names a slot of the execution stack (R17). -/
abbrev State.hasSlot (s : State) (a : Int) : Prop := 0 ≤ a ∧ a < s.cfg.stackCap

/-- The slot of register `n` (R15). -/
def State.slotOf (s : State) (n : Nat) : Nat := (int32 s.bp + n).toNat

/-- The word register `n` holds (R15). -/
def State.reg (s : State) (n : Nat) : Word := s.stack.read (s.slotOf n)

/-! What a step leaves. -/

/-- `pc` at the next instruction, the instruction counted, all else as it was (R56, R58). -/
def State.advanced (s : State) : State :=
  { s with pc := wrap32 (int32 s.pc + 1), icount := s.icount + 1 }

/-- As `advanced`, with `pc` at `int32(pc0) + 1 + k`. -/
def State.branched (s : State) (k : Int) : State :=
  { s with pc := wrap32 (int32 s.pc + 1 + k), icount := s.icount + 1 }

/-- The same state but for the slot of register `n`. -/
def State.putReg (s : State) (n : Nat) (v : Word) : State :=
  { s with stack := s.stack.write (s.slotOf n) v }

/-- The same state but for the status and the record, with the given word in it (R111). -/
def State.faultedAt (s : State) (word : Option Word) (kind : FaultKind) (info : Int) : State :=
  { s with status := .faulted, fault := some ⟨kind, s.pc, word, some info⟩ }

/-- The instruction raises `Fault(kind, info)`: its record holds the word at `pc` (R111). -/
def Raises (i : Instr) (s : State) (kind : FaultKind) (info : Int) : Prop :=
  exec i s = .next (s.faultedAt s.fetch kind info)

/-- The first of the source registers, in the order they are read, that names no slot is reported
(R16, R110). -/
def SourceFaults (i : Instr) (srcs : List Nat) (s : State) : Prop :=
  ∀ pre n post, srcs = pre ++ n :: post → (∀ m ∈ pre, s.hasReg m) → ¬ s.hasReg n →
    Raises i s .registerOutOfRange (int32 s.bp + n)

/-- All of an integer instruction's outcomes, its checks in the order of its pseudocode: its sources; with
none out of range, its arithmetic fault `bad`; with none, its destination, or it writes `v` (R110, D17). -/
def IntOutcome (i : Instr) (srcs : List Nat) (a : Nat) (s : State) (bad : Option Trap) (v : Int) : Prop :=
  SourceFaults i srcs s ∧
    ((∀ n ∈ srcs, s.hasReg n) →
      (bad = none → s.hasReg a → exec i s = .next (s.advanced.putReg a (wrap32 v))) ∧
      (bad = none → ¬ s.hasReg a → Raises i s .registerOutOfRange (int32 s.bp + a)) ∧
      (∀ t, bad = some t → Raises i s t.kind t.info))

/-- The overflow fault an exact result raises, if the policy is `fault` and it is no int32 (R62). -/
def overflowFault (s : State) (v : Int) : Option Trap :=
  if s.cfg.ovfPolicy = .fault ∧ ¬ inInt32 v then some ⟨.integerOverflow, v⟩ else none

/-- The fault a division of `a` by `b` raises, if any (R68). -/
def divisionFault (pc0 a b : Int) : Option Trap :=
  if b = 0 then some ⟨.divideByZero, pc0⟩
  else if a = -2147483648 ∧ b = -1 then some ⟨.divideOverflow, pc0⟩
  else none

/-- The fault `truncI` raises on a value with no int32 reading (R64). -/
def conversionFaultOf (pc0 : Int) (v : FVal) : Option Trap :=
  match truncI v with
  | none => some ⟨.conversionFault, pc0⟩
  | some _ => none

/-- All of a float instruction's outcomes: its registers are checked, sources first, and no other fault
arises; a number is written as its bits, a NaN as some word that reads as a NaN (R80). -/
def FloatOutcome (i : Instr) (srcs : List Nat) (a : Nat) (s : State) (v : FVal) : Prop :=
  SourceFaults i srcs s ∧
    ((∀ n ∈ srcs, s.hasReg n) →
      (¬ s.hasReg a → Raises i s .registerOutOfRange (int32 s.bp + a)) ∧
      (s.hasReg a →
        ∃ (w : Word) (draws : Nat),
          exec i s = .next { s.advanced.putReg a w with nanDraws := draws } ∧
            asF32 w = v ∧ ∀ x, v = some x → w = bitsF32 x))

/-! Where an instruction stores. -/

/-- The execution-stack slot an instruction stores to, computed as its meaning does: the destination
register's slot, or for PUSH the slot above the top (R16, R88). -/
def storeSlot (i : Instr) (s : State) : Option Nat :=
  match i with
  | .add a _ _ | .sub a _ _ | .mul a _ _ | .div a _ _ | .mod a _ _ | .exp a _ _ => some (s.slotOf a)
  | .fadd a _ _ | .fsub a _ _ | .fmul a _ _ | .fdiv a _ _ | .fmod a _ _ | .fexp a _ _ => some (s.slotOf a)
  | .sqrt a _ | .fsqrt a _ | .mov a _ => some (s.slotOf a)
  | .addimm a _ | .subimm a _ | .mulimm a _ | .divimm a _ | .modimm a _ => some (s.slotOf a)
  | .sqrtimm a _ | .expimm a _ | .movimm16 a _ | .loadg a _ => some (s.slotOf a)
  | .pop a | .loadret a => some (s.slotOf a)
  | .push _ => some (int32 s.sp + 1).toNat
  | .setg _ _ | .cmp _ _ | .gt _ _ | .gte _ _ | .je _ _ | .jmp _ | .call _ | .ret _ => none
  | .print _ | .endRun => none

/-- The global an instruction stores to (R30, R92). -/
def storeGlobal : Instr → Option Nat
  | .setg _ u => some u
  | .add _ _ _ | .sub _ _ _ | .mul _ _ _ | .div _ _ _ | .mod _ _ _ | .exp _ _ _ => none
  | .fadd _ _ _ | .fsub _ _ _ | .fmul _ _ _ | .fdiv _ _ _ | .fmod _ _ _ | .fexp _ _ _ => none
  | .sqrt _ _ | .fsqrt _ _ | .mov _ _ | .cmp _ _ | .gt _ _ | .gte _ _ => none
  | .addimm _ _ | .subimm _ _ | .mulimm _ _ | .divimm _ _ | .modimm _ _ => none
  | .sqrtimm _ _ | .expimm _ _ | .movimm16 _ _ | .loadg _ _ => none
  | .push _ | .pop _ | .ret _ | .loadret _ | .print _ | .call _ | .je _ _ | .jmp _ | .endRun => none

/-- The word in the program at `pc`, none where `pc` is outside it (R55), said without the model's fetch. -/
def State.wordAtPc (s : State) : Option Word :=
  if 0 ≤ int32 s.pc ∧ int32 s.pc < s.prog.length then s.prog[(int32 s.pc).toNat]? else none

/-- Two words agree on the opcode and on every field the opcode's format uses (R46). -/
def SameUsedFields (w w' : Word) : Prop :=
  (extract w).op = (extract w').op ∧
    match (opcodeOf (extract w).op).map Mnemonic.format with
    | none => True
    | some .R3 => (extract w).rA = (extract w').rA ∧ (extract w).rB = (extract w').rB ∧
        (extract w).rC = (extract w').rC
    | some .R2 => (extract w).rA = (extract w').rA ∧ (extract w).rB = (extract w').rB
    | some .R1 => (extract w).rA = (extract w').rA
    | some .RU => (extract w).rA = (extract w').rA ∧ (extract w).u16 = (extract w').u16
    | some .RS => (extract w).rA = (extract w').rA ∧ (extract w).u16 = (extract w').u16
    | some .U16 => (extract w).u16 = (extract w').u16
    | some .S24 => (extract w).u24 = (extract w').u24
    | some .N => True

/-- A Running core whose `pc` is at a word that decodes to `i` (R54, R55). -/
def State.about (s : State) (i : Instr) : Prop :=
  s.status = .running ∧ ∃ w, s.wordAtPc = some w ∧ decode w = .instr i

end Sys2Proof.Machine
end

