-- ==== Sys2Proof/Certificates/Slice0/Obligations.lean ====
section
/-! DEFINITION. The statements for the provers, in the order of the spec's files. `log n` is
notes/assumptions/n.md. -/

open Sys2Proof Sys2Proof.Machine

/-! ### Encoding and the decoder (30_encoding.md) -/

/-- R52: decode of an encoded word returns the fields it was built from, for every field value in range. -/
def Obligations.DecodeEncodeRoundTrip : Prop :=
  ∀ i : Instr, i.wellFormed = true → decode (encode i) = .instr i

/-- R47: any value of an ignored field selects the same instruction. -/
def Obligations.UnusedBitsAreIgnored : Prop :=
  ∀ w w' : Word, SameUsedFields w w' → decode w = decode w'

/-- R51 (default OPC, log 1): the values 0x00 to 0x24 name an instruction with operands in range, and
the 219 others none; the decoder decodes every word. -/
def Obligations.ExactlyTheAssignedOpcodesDecode : Prop :=
  ∀ w : Word,
    (w.toNat % 256 ≤ 0x24 →
      ∃ i, decode w = .instr i ∧ i.wellFormed = true ∧ i.mnemonic.opc = w.toNat % 256) ∧
    (0x24 < w.toNat % 256 → decode w = .unknown (w.toNat % 256))

/-- R43: signed immediates are in excess code: JE's offset is u16 - 2^15 and JMP's is u24 - 2^23; an
unsigned immediate is u16 itself. The opcode values are R49's default map (log 1). -/
def Obligations.SignedOffsetsAreExcessCoded : Prop :=
  ∀ w : Word,
    (w.toNat % 256 = 0x1E →
      decode w = .instr (.je (w.toNat / 256 % 256) ((w.toNat / 65536 : Nat) - 32768))) ∧
    (w.toNat % 256 = 0x1F → decode w = .instr (.jmp ((w.toNat / 256 : Nat) - 8388608))) ∧
    (w.toNat % 256 = 0x1A →
      decode w = .instr (.movimm16 (w.toNat / 256 % 256) (w.toNat / 65536)))

/-- Sample words of the spec's examples (R65, R78, R84, R89, R98, R99, R101, R106, R107). -/
def Obligations.SpecExampleWordsDecode : Prop :=
  decode 0x02010000 = .instr (.add 0 1 2) ∧ decode 0x0010000C = .instr (.sqrtimm 0 16) ∧
  decode 0x02010011 = .instr (.fdiv 0 1 2) ∧ decode 0x00000116 = .instr (.pop 1) ∧
  decode 0x7FFD001E = .instr (.je 0 (-3)) ∧ decode 0x7FFFFF1F = .instr (.jmp (-1)) ∧
  decode 0x00010020 = .instr (.call 1) ∧ decode 0x00000223 = .instr (.print 2) ∧
  decode 0xABCDEF24 = .instr .endRun ∧ decode 0xFFFFFFFF = .unknown 255

/-! ### The step (40_dispatch_loop.md, 60_exceptions.md) -/

/-- R54, R57: the step of a Running core at a word that decodes to an instruction is that instruction's
meaning, which holds the advance and the count. -/
def Obligations.StepRunsDecodedInstruction : Prop :=
  ∀ (s : State) (i : Instr), s.about i → step s = exec i s

/-- R55 and R57 with R111: a `pc` outside the program and an unassigned opcode fault, before any effect. The
opcodes above 0x24 are the unassigned ones of R49's default map (R51, log 1). -/
def Obligations.StepFaultsOnBadFetchOrOpcode : Prop :=
  ∀ s : State, s.status = .running →
    (int32 s.pc < 0 ∨ s.prog.length ≤ int32 s.pc →
      step s = .next (s.faultedAt none .fetchOutOfRange (int32 s.pc))) ∧
    (∀ w, s.wordAtPc = some w → 0x24 < w.toNat % 256 →
      step s = .next (s.faultedAt (some w) .unknownOpcode (w.toNat % 256 : Nat)))

/-- R54, R113: only a Running core performs a step, and a Faulted one accepts no operation but `init`
(R119, D22). That the step of a stopped core and an abort of one answer with the state unchanged is the
model's choice (logs 8, 11). -/
def Obligations.StoppedCoreRunsNothing : Prop :=
  ∀ s : State,
    (s.status ≠ .running → step s = .next s) ∧
    (s.status = .faulted →
      (∀ d k, hostSetMethod d k s = .error .notInitialized) ∧
      (∀ i w, hostSetStack i w s = .error .notInitialized) ∧
      (∀ p e, hostRun p e s = .error .notInitialized) ∧
      hostShutdown s = .error .notInitialized ∧ hostAbort s = s)

/-- R111: fault entry is precise: whatever a step of a Running core faults on, the state after it is the
state before it but for the status and the record (kind, pc0, fetched word or none, info). -/
def Obligations.FaultEntryIsPrecise : Prop :=
  ∀ s t : State, s.status = .running → step s = .next t → t.status = .faulted →
    ∃ (kind : FaultKind) (info : Int),
      kind.code ≠ none ∧ t = s.faultedAt s.wordAtPc kind info

/-- R58: a step that does not fault counts one instruction, whichever it is. -/
def Obligations.CompletedStepCountsOne : Prop :=
  ∀ s t : State, s.status = .running → step s = .next t → t.status ≠ .faulted →
    t.icount = s.icount + 1 ∧ t.fault = s.fault

/-- R59, R107: END is the one instruction that halts, and it always does. -/
def Obligations.OnlyEndHalts : Prop :=
  ∀ s t : State, s.status = .running → step s = .next t →
    (t.status = .halted ↔ s.about .endRun)

/-- Every step keeps the state's invariant: canonical memories inside their capacities, `CS` not deeper
than `CALL_DEPTH_CAP` (R20), int32 outputs (R25), a record exactly where R28 wants one. -/
def Obligations.StepKeepsStateOk : Prop :=
  ∀ s t : State, s.Ok → step s = .next t → t.Ok

/-- The reset state meets the invariant. -/
def Obligations.ResetStateIsOk : Prop := State.reset.Ok

/-- The values R12 and R119 give for `init`. -/
def Obligations.ResetHoldsTheSpecValues : Prop :=
  State.reset.bp = 0 ∧ State.reset.sp = 0 ∧ State.reset.pc = 0 ∧ State.reset.cs = [] ∧
  (∀ i, State.reset.globals.read i = 0) ∧ (∀ k, lookup State.reset.methods k = none) ∧
  State.reset.icount = 0 ∧ State.reset.status = .idle ∧ State.reset.fault = none ∧ State.reset.out = [] ∧
  State.reset.cfg.stackCap = 1024 ∧ State.reset.cfg.callDepthCap = 1024 ∧
  State.reset.cfg.methodCap = 64 ∧ State.reset.cfg.globalCap = 1024

/-! ### Frames: what an instruction leaves unchanged -/

/-- R60, R17, R20, R21: only CALL and RET move `bp` and `CS`, only PUSH, POP, CALL and RET move `sp`, only
RET writes `RV`; for every instruction that gives a next state, faulting or not. -/
def Obligations.RegistersMoveOnlyByTheirInstructions : Prop :=
  ∀ (i : Instr) (s t : State), exec i s = .next t →
    (i.mnemonic ≠ .CALL → i.mnemonic ≠ .RET → t.bp = s.bp ∧ t.cs = s.cs) ∧
    (i.mnemonic ≠ .PUSH → i.mnemonic ≠ .POP → i.mnemonic ≠ .CALL → i.mnemonic ≠ .RET → t.sp = s.sp) ∧
    (i.mnemonic ≠ .RET → t.rv = s.rv)

/-- R16, R30, R88: whatever an instruction does, every slot of the execution stack reads as before but the
one slot the instruction stores to (its destination register's, or PUSH's `sp + 1`); the comparisons,
branches, CALL, RET, SETG, PRINT and END store to none. -/
def Obligations.StackStoresOnlyToItsSlot : Prop :=
  ∀ (i : Instr) (s t : State), s.MemoryOk → exec i s = .next t →
    ∀ a, storeSlot i s ≠ some a → t.stack.read a = s.stack.read a

/-- R30, R92: only SETG stores to the global store, and only to its index. -/
def Obligations.GlobalsChangeOnlyBySetg : Prop :=
  ∀ (i : Instr) (s t : State), s.MemoryOk → exec i s = .next t →
    ∀ a, storeGlobal i ≠ some a → t.globals.read a = s.globals.read a

/-- R25, R106, R103: only PRINT, and LOADRET under `LOADRET_PRINTS`, append to the output channel; what is
there stays there. -/
def Obligations.OutputGrowsOnlyByPrinting : Prop :=
  ∀ (i : Instr) (s t : State), exec i s = .next t →
    s.out <+: t.out ∧
    (i.mnemonic ≠ .PRINT → (i.mnemonic = .LOADRET → s.cfg.loadretPrints = false) → t.out = s.out)

/-- R23, R26, R39: no instruction writes the program, the method table or the parameters. -/
def Obligations.ProgramMethodsParametersNeverWritten : Prop :=
  ∀ (i : Instr) (s t : State), exec i s = .next t →
    t.prog = s.prog ∧ t.methods = s.methods ∧ t.cfg = s.cfg

/-- R31, R36: a read gives the value of the most recent write to that element. -/
def Obligations.ReadGivesMostRecentWrite : Prop :=
  ∀ (m : Memory) (a b : Nat) (v : Word), m.wf →
    (m.write a v).read b = if b = a then v else m.read b

/-! ### Integer arithmetic (41_int_arith.md, 42_int_imm_arith.md) -/

/-- R65, R66, R67 with R62: ADD, SUB, MUL. -/
def Obligations.AddSubMulOutcomes : Prop :=
  ∀ (a b c : Nat) (s : State),
    let x := int32 (s.reg b)
    let y := int32 (s.reg c)
    IntOutcome (.add a b c) [b, c] a s (overflowFault s (x + y)) (x + y) ∧
    IntOutcome (.sub a b c) [b, c] a s (overflowFault s (x - y)) (x - y) ∧
    IntOutcome (.mul a b c) [b, c] a s (overflowFault s (x * y)) (x * y)

/-- R68, R69: DIV and MOD: quotient toward zero, remainder with it, and the two faults. -/
def Obligations.DivModOutcomes : Prop :=
  ∀ (a b c : Nat) (s : State),
    let x := int32 (s.reg b)
    let y := int32 (s.reg c)
    IntOutcome (.div a b c) [b, c] a s (divisionFault (int32 s.pc) x y) (truncRat (x / y)) ∧
    IntOutcome (.mod a b c) [b, c] a s (divisionFault (int32 s.pc) x y) (x - y * truncRat (x / y))

/-- R70, R78: SQRT faults exactly on a negative operand; SQRTIMM never faults but on its register. -/
def Obligations.SqrtOutcomes : Prop :=
  ∀ (a b u : Nat) (s : State), isU16 u →
    (∃ v : Int,
      (0 ≤ int32 (s.reg b) →
        truncI (fsqrt s.convFormat (some (toF s.convFormat (int32 (s.reg b))))) = some v) ∧
      IntOutcome (.sqrt a b) [b] a s
        (if int32 (s.reg b) < 0 then some ⟨.conversionFault, int32 s.pc⟩ else none) v) ∧
    (∃ v : Int,
      truncI (fsqrt s.convFormat (some (toF s.convFormat u))) = some v ∧
      IntOutcome (.sqrtimm a u) [] a s none v)

/-- R71, R79: EXP and EXPIMM, for every power function (log 5). -/
def Obligations.ExpOutcomes : Prop :=
  ∀ (a b c u : Nat) (s : State),
    (let p := intPow s.cfg.intConvFmt (int32 (s.reg b)) (int32 (s.reg c))
     IntOutcome (.exp a b c) [b, c] a s (conversionFaultOf (int32 s.pc) p) ((truncI p).getD 0)) ∧
    (let p := intPow s.cfg.intConvFmt (int32 (s.reg a)) u
     IntOutcome (.expimm a u) [a] a s (conversionFaultOf (int32 s.pc) p) ((truncI p).getD 0))

/-- R73, R74, R75 with R62, R72: ADDIMM, SUBIMM, MULIMM. -/
def Obligations.AddSubMulImmOutcomes : Prop :=
  ∀ (a u : Nat) (s : State),
    let x := int32 (s.reg a)
    IntOutcome (.addimm a u) [a] a s (overflowFault s (x + u)) (x + u) ∧
    IntOutcome (.subimm a u) [a] a s (overflowFault s (x - u)) (x - u) ∧
    IntOutcome (.mulimm a u) [a] a s (overflowFault s (x * u)) (x * u)

/-- R76, R77: DIVIMM and MODIMM; only a zero immediate faults. -/
def Obligations.DivModImmOutcomes : Prop :=
  ∀ (a u : Nat) (s : State),
    let x := int32 (s.reg a)
    let bad : Option Trap := if u = 0 then some ⟨.divideByZero, int32 s.pc⟩ else none
    IntOutcome (.divimm a u) [a] a s bad (truncRat (x / u)) ∧
    IntOutcome (.modimm a u) [a] a s bad (x - u * truncRat (x / u))

/-- R63, R70, R78 as values: up to 2^24, in either format, the integer square root is the floor of the
exact root. -/
def Obligations.IntegerSqrtIsFloorRoot : Prop :=
  ∀ (fmt : ConvFmt) (n : Nat), n ≤ 16777216 →
    let f := match fmt with
      | .binary32 => binary32
      | .binary64 => binary64
    truncI (fsqrt f (some (toF f n))) = some (Nat.sqrt n : Int)

/-- D7's `FPOW_EXACT_INT` with R71, R79: where base, exponent and the exact power are integers up to 2^24,
which convert exactly, EXP and EXPIMM complete with that power, whatever the power function does elsewhere
(0 to the 0 is left free, log 5). -/
def Obligations.ExpIsExactOnSmallIntegers : Prop :=
  ∀ (a b c u : Nat) (s : State), s.hasReg a →
    (let x := int32 (s.reg b)
     let y := int32 (s.reg c)
     s.hasReg b → s.hasReg c → x.natAbs ≤ 16777216 → 0 ≤ y → y ≤ 16777216 → (x ≠ 0 ∨ y ≠ 0) →
       (x ^ y.toNat).natAbs ≤ 16777216 →
       exec (.exp a b c) s = .next (s.advanced.putReg a (wrap32 (x ^ y.toNat)))) ∧
    (let x := int32 (s.reg a)
     x.natAbs ≤ 16777216 → isU16 u → (x ≠ 0 ∨ u ≠ 0) → (x ^ u).natAbs ≤ 16777216 →
       exec (.expimm a u) s = .next (s.advanced.putReg a (wrap32 (x ^ u))))

/-- R63: every int32 converts exactly to binary64, and exactly to binary32 up to 2^24 in magnitude. -/
def Obligations.IntegersConvertExactly : Prop :=
  ∀ n : Int,
    (inInt32 n → (toF binary64 n).value = n) ∧
    (n.natAbs ≤ 16777216 → (toF binary32 n).value = n)

/-- R64: truncation toward zero, and `ConversionFault` on a NaN, an infinity or a value outside int32. -/
def Obligations.TruncationTowardZero : Prop :=
  ∀ (pc0 : Int) (neg : Bool) (m : Nat) (e : Int),
    let t := truncRat (FNum.fin neg m e).value
    (inInt32 t → truncOrFault pc0 (some (.fin neg m e)) = .ok t) ∧
    (¬ inInt32 t → truncOrFault pc0 (some (.fin neg m e)) = .error ⟨.conversionFault, pc0⟩) ∧
    truncOrFault pc0 (some (.inf neg)) = .error ⟨.conversionFault, pc0⟩ ∧
    truncOrFault pc0 none = .error ⟨.conversionFault, pc0⟩

/-! ### Float arithmetic (43_float_arith.md) -/

/-- R81 to R85, R87: the three-register float instructions. -/
def Obligations.FloatBinaryOutcomes : Prop :=
  ∀ (a b c : Nat) (s : State),
    let x := asF32 (s.reg b)
    let y := asF32 (s.reg c)
    FloatOutcome (.fadd a b c) [b, c] a s (fadd binary32 x y) ∧
    FloatOutcome (.fsub a b c) [b, c] a s (fsub binary32 x y) ∧
    FloatOutcome (.fmul a b c) [b, c] a s (fmul binary32 x y) ∧
    FloatOutcome (.fdiv a b c) [b, c] a s (fdiv binary32 x y) ∧
    FloatOutcome (.fmod a b c) [b, c] a s (fmod binary32 x y) ∧
    FloatOutcome (.fexp a b c) [b, c] a s (fpow32 (s.reg b) (s.reg c))

/-- R86: FSQRT. -/
def Obligations.FsqrtOutcome : Prop :=
  ∀ (a b : Nat) (s : State),
    FloatOutcome (.fsqrt a b) [b] a s (fsqrt binary32 (asF32 (s.reg b)))

/-- R80: rounding is to nearest with ties to even, subnormals kept, a value at or beyond halfway past the
largest finite number an infinity (that threshold is IEEE 754's, log 13). -/
def Obligations.RoundingIsNearestEven : Prop :=
  ∀ (f : FloatFormat) (neg : Bool) (num den : Nat), f = binary32 ∨ f = binary64 → 0 < num → 0 < den →
    (f.overflowAt ≤ (num : ℚ) / den → roundRatio f neg num den = .inf neg) ∧
    ((num : ℚ) / den < f.overflowAt →
      ∃ m e, roundRatio f neg num den = .fin neg m e ∧ NearestEven f ((num : ℝ) / den) m e)

/-- R80 to R84: a sum, a difference, a product and a quotient of finite numbers is the exact rational
result, rounded once; an exact zero sum is -0 only of two negatives (a difference is the sum with the
second operand negated), a zero product or quotient has the sign of the exclusive or of the operands'
signs (general knowledge in the spec, log 13). -/
def Obligations.FloatArithmeticRoundsExactResults : Prop :=
  ∀ (sa sb : Bool) (ma mb : Nat) (ea eb : Int),
    let f := binary32
    let x := FNum.fin sa ma ea
    let y := FNum.fin sb mb eb
    (x.value + y.value ≠ 0 →
      fadd f (some x) (some y) = some (roundRat f (x.value + y.value < 0) |x.value + y.value|)) ∧
    (x.value + y.value = 0 → fadd f (some x) (some y) = some (.fin (sa && sb) 0 f.eMin)) ∧
    (x.value - y.value ≠ 0 →
      fsub f (some x) (some y) = some (roundRat f (x.value - y.value < 0) |x.value - y.value|)) ∧
    (x.value - y.value = 0 → fsub f (some x) (some y) = some (.fin (sa && !sb) 0 f.eMin)) ∧
    fmul f (some x) (some y) = some (roundRat f (sa ^^ sb) |x.value * y.value|) ∧
    (mb ≠ 0 → fdiv f (some x) (some y) = some (roundRat f (sa ^^ sb) |x.value / y.value|))

/-- R85: the remainder of two finite numbers is b - n·c exactly, n the quotient toward zero, with the sign
of b, also where it is a zero (log 13). -/
def Obligations.FmodIsTheExactRemainder : Prop :=
  ∀ (b c : Word) (sb sc : Bool) (mb mc : Nat) (eb ec : Int),
    asF32 b = some (.fin sb mb eb) → asF32 c = some (.fin sc mc ec) → mc ≠ 0 →
    ∃ m e, fmod binary32 (asF32 b) (asF32 c) = some (.fin sb m e) ∧ Canonical binary32 m e ∧
      (FNum.fin sb m e).value =
        (FNum.fin sb mb eb).value -
          truncRat ((FNum.fin sb mb eb).value / (FNum.fin sc mc ec).value) * (FNum.fin sc mc ec).value

/-- R86: the square root of a positive number is the number nearest to the real root. -/
def Obligations.FsqrtIsTheNearestRoot : Prop :=
  ∀ (b : Word) (m : Nat) (e : Int), asF32 b = some (.fin false m e) → m ≠ 0 →
    ∃ m' e', fsqrt binary32 (asF32 b) = some (.fin false m' e') ∧
      NearestEven binary32 (Real.sqrt ((m : ℝ) * 2 ^ e)) m' e'

/-- R81 to R86: every operation on a NaN or an infinity, and by a zero. Invalid operations give a NaN; the
results and signs beyond the rules' corner cases are IEEE 754's (general knowledge in the spec, log 13). -/
def Obligations.FloatSpecialCases : Prop :=
  ∀ (f : FloatFormat) (x : FVal) (s t : Bool) (m n : Nat) (e d : Int),
    (fadd f none x = none ∧ fadd f x none = none ∧ fsub f none x = none ∧ fsub f x none = none ∧
      fmul f none x = none ∧ fmul f x none = none ∧ fdiv f none x = none ∧ fdiv f x none = none ∧
      fmod f none x = none ∧ fmod f x none = none ∧ fsqrt f none = none) ∧
    (fadd f (some (.inf s)) (some (.inf s)) = some (.inf s) ∧
      (s ≠ t → fadd f (some (.inf s)) (some (.inf t)) = none) ∧
      fadd f (some (.inf s)) (some (.fin t n d)) = some (.inf s) ∧
      fadd f (some (.fin s m e)) (some (.inf t)) = some (.inf t)) ∧
    (fsub f (some (.inf s)) (some (.inf s)) = none ∧
      (s ≠ t → fsub f (some (.inf s)) (some (.inf t)) = some (.inf s)) ∧
      fsub f (some (.inf s)) (some (.fin t n d)) = some (.inf s) ∧
      fsub f (some (.fin s m e)) (some (.inf t)) = some (.inf (!t))) ∧
    (fmul f (some (.inf s)) (some (.inf t)) = some (.inf (s ^^ t)) ∧
      fmul f (some (.inf s)) (some (.fin t 0 d)) = none ∧
      fmul f (some (.fin s 0 e)) (some (.inf t)) = none ∧
      (n ≠ 0 → fmul f (some (.inf s)) (some (.fin t n d)) = some (.inf (s ^^ t))) ∧
      (m ≠ 0 → fmul f (some (.fin s m e)) (some (.inf t)) = some (.inf (s ^^ t)))) ∧
    (fdiv f (some (.inf s)) (some (.inf t)) = none ∧
      fdiv f (some (.inf s)) (some (.fin t n d)) = some (.inf (s ^^ t)) ∧
      fdiv f (some (.fin s m e)) (some (.inf t)) = some (.fin (s ^^ t) 0 f.eMin) ∧
      fdiv f (some (.fin s 0 e)) (some (.fin t 0 d)) = none ∧
      (m ≠ 0 → fdiv f (some (.fin s m e)) (some (.fin t 0 d)) = some (.inf (s ^^ t)))) ∧
    (fmod f (some (.inf s)) (some (.inf t)) = none ∧
      fmod f (some (.inf s)) (some (.fin t n d)) = none ∧
      fmod f (some (.fin s m e)) (some (.fin t 0 d)) = none ∧
      fmod f (some (.fin s m e)) (some (.inf t)) = some (.fin s m e)) ∧
    (fsqrt f (some (.inf true)) = none ∧ fsqrt f (some (.inf false)) = some (.inf false) ∧
      (m ≠ 0 → fsqrt f (some (.fin true m e)) = none) ∧
      fsqrt f (some (.fin s 0 e)) = some (.fin s 0 f.eMin))

/-- R9, R80: reading a pattern as a number and writing its bits gives the pattern back, and the `NAN_BITS`
patterns are exactly the patterns that read as a NaN. -/
def Obligations.FloatBitsAndNanPatterns : Prop :=
  (∀ (w : Word) (x : FNum), asF32 w = some x → bitsF32 x = w) ∧
  (∀ w : Word, asF32 w = none ↔ ∃ p : NanPattern, p.word = w)

/-! ### Stack, move and global store (44_stack_move_global.md) -/

/-- R88: PUSH. -/
def Obligations.PushOutcomes : Prop :=
  ∀ (a : Nat) (s : State),
    SourceFaults (.push a) [a] s ∧
    (s.hasReg a → s.hasSlot (int32 s.sp + 1) →
      exec (.push a) s = .next { s.advanced with
        stack := s.stack.write (int32 s.sp + 1).toNat (s.reg a), sp := wrap32 (int32 s.sp + 1) }) ∧
    (s.hasReg a → ¬ s.hasSlot (int32 s.sp + 1) →
      Raises (.push a) s .stackOutOfRange (int32 s.sp + 1))

/-- R89: POP. -/
def Obligations.PopOutcomes : Prop :=
  ∀ (a : Nat) (s : State),
    (¬ s.hasSlot (int32 s.sp) → Raises (.pop a) s .stackOutOfRange (int32 s.sp)) ∧
    (s.hasSlot (int32 s.sp) → ¬ s.hasReg a → Raises (.pop a) s .registerOutOfRange (int32 s.bp + a)) ∧
    (s.hasSlot (int32 s.sp) → s.hasReg a →
      exec (.pop a) s = .next { s.advanced.putReg a (s.stack.read (int32 s.sp).toNat) with
        sp := wrap32 (int32 s.sp - 1) })

/-- R89's law: PUSH then POP on the same register is a round trip. -/
def Obligations.PushThenPopRoundTrip : Prop :=
  ∀ (a : Nat) (s t u : State), s.MemoryOk →
    exec (.push a) s = .next t → t.status ≠ .faulted →
    exec (.pop a) t = .next u → u.status ≠ .faulted →
    u.sp = s.sp ∧ u.reg a = s.reg a

/-- R90, R93: MOV and MOVIMM16. -/
def Obligations.MoveOutcomes : Prop :=
  ∀ (a b u : Nat) (s : State), isU16 u →
    SourceFaults (.mov a b) [b] s ∧
    (s.hasReg b → s.hasReg a → exec (.mov a b) s = .next (s.advanced.putReg a (s.reg b))) ∧
    (s.hasReg b → ¬ s.hasReg a → Raises (.mov a b) s .registerOutOfRange (int32 s.bp + a)) ∧
    (s.hasReg a → exec (.movimm16 a u) s = .next (s.advanced.putReg a (wrap32 u))) ∧
    (¬ s.hasReg a → Raises (.movimm16 a u) s .registerOutOfRange (int32 s.bp + a))

/-- R91, R92: LOADG and SETG. -/
def Obligations.GlobalAccessOutcomes : Prop :=
  ∀ (a u : Nat) (s : State),
    (s.cfg.globalCap ≤ u → Raises (.loadg a u) s .globalOutOfRange u) ∧
    (u < s.cfg.globalCap → ¬ s.hasReg a →
      Raises (.loadg a u) s .registerOutOfRange (int32 s.bp + a)) ∧
    (u < s.cfg.globalCap → s.hasReg a →
      exec (.loadg a u) s = .next (s.advanced.putReg a (s.globals.read u))) ∧
    SourceFaults (.setg a u) [a] s ∧
    (s.hasReg a → s.cfg.globalCap ≤ u → Raises (.setg a u) s .globalOutOfRange u) ∧
    (s.hasReg a → u < s.cfg.globalCap →
      exec (.setg a u) s = .next { s.advanced with globals := s.globals.write u (s.reg a) })

/-! ### Comparisons and branches (45_compare_branch.md) -/

/-- R95, R96, R97: CMP, GT, GTE: signed, a taken comparison continues at `pc0 + 2`, an untaken one at
`pc0 + 1`, and nothing else changes. -/
def Obligations.CompareOutcomes : Prop :=
  ∀ (a b : Nat) (s : State),
    SourceFaults (.cmp a b) [a, b] s ∧ SourceFaults (.gt a b) [a, b] s ∧
    SourceFaults (.gte a b) [a, b] s ∧
    (s.hasReg a → s.hasReg b →
      exec (.cmp a b) s = .next (if s.reg a = s.reg b then s.branched 1 else s.advanced) ∧
      exec (.gt a b) s =
        .next (if int32 (s.reg a) > int32 (s.reg b) then s.branched 1 else s.advanced) ∧
      exec (.gte a b) s =
        .next (if int32 (s.reg a) ≥ int32 (s.reg b) then s.branched 1 else s.advanced))

/-- R98, R99, R100: JE branches where its register is not zero, JMP always; the target `pc0 + 1 + k` is not
checked, and the branch completes. -/
def Obligations.BranchOutcomes : Prop :=
  ∀ (a : Nat) (k : Int) (s : State),
    SourceFaults (.je a k) [a] s ∧
    (s.hasReg a →
      exec (.je a k) s = .next (if s.reg a ≠ 0 then s.branched k else s.advanced)) ∧
    exec (.jmp k) s = .next (s.branched k)

/-! ### Calls and returns (46_call_return.md) -/

/-- R101: CALL, its three faults in order, the pushed frame and the callee's window. -/
def Obligations.CallOutcomes : Prop :=
  ∀ (k : Nat) (s : State),
    (s.cfg.methodCap ≤ k → Raises (.call k) s .methodOutOfRange k) ∧
    (k < s.cfg.methodCap → lookup s.methods k = none → Raises (.call k) s .unregisteredMethod k) ∧
    (∀ d, k < s.cfg.methodCap → lookup s.methods k = some d → s.cs.length = s.cfg.callDepthCap →
      Raises (.call k) s .callStackOverflow k) ∧
    (∀ d, k < s.cfg.methodCap → lookup s.methods k = some d → s.cs.length ≠ s.cfg.callDepthCap →
      exec (.call k) s = .next { s.advanced with
        cs := s.cs ++ [⟨s.bp, s.sp, wrap32 (int32 s.pc + 1)⟩]
        bp := wrap32 (int32 s.sp - int32 d.argSize + 1)
        sp := wrap32 (int32 s.sp - int32 d.argSize + int32 d.localsSize)
        pc := d.entry })

/-- R102: RET, its two faults in order, `RV` and the caller's frame. -/
def Obligations.RetOutcomes : Prop :=
  ∀ (a : Nat) (s : State),
    SourceFaults (.ret a) [a] s ∧
    (s.hasReg a → s.cs = [] → Raises (.ret a) s .callStackUnderflow (int32 s.pc)) ∧
    (∀ saved fr, s.hasReg a → s.cs = saved ++ [fr] →
      exec (.ret a) s = .next { s.advanced with
        rv := s.reg a, bp := fr.bp, sp := fr.sp, pc := fr.pc, cs := saved })

/-- R103: LOADRET, under both values of `LOADRET_PRINTS`. -/
def Obligations.LoadretOutcomes : Prop :=
  ∀ (a : Nat) (s : State),
    (¬ s.hasReg a → Raises (.loadret a) s .registerOutOfRange (int32 s.bp + a)) ∧
    (s.hasReg a → s.cfg.loadretPrints = false →
      exec (.loadret a) s = .next (s.advanced.putReg a s.rv)) ∧
    (s.hasReg a → s.cfg.loadretPrints = true →
      exec (.loadret a) s = .next { s.advanced.putReg a s.rv with out := s.out ++ [int32 s.rv] })

/-- R104: a CALL that does not fault, any run after it that never leaves the callee's depth, and the RET
that pops the frame it pushed give back `bp`, `sp` and `CS`, with `pc` after the CALL. -/
def Obligations.CallRetRoundTripOverRuns : Prop :=
  ∀ (k r n : Nat) (s t u v : State),
    exec (.call k) s = .next t → t.status ≠ .faulted →
    (∀ j, j ≤ n → t.cs.length ≤ (runSteps j t).cs.length) →
    u = runSteps n t → u.cs.length = t.cs.length →
    exec (.ret r) u = .next v → v.status ≠ .faulted →
    v.bp = s.bp ∧ v.sp = s.sp ∧ v.pc = wrap32 (int32 s.pc + 1) ∧ v.cs = s.cs

/-! ### Output and termination (47_output_halt.md) -/

/-- R106: PRINT. -/
def Obligations.PrintOutcomes : Prop :=
  ∀ (a : Nat) (s : State),
    SourceFaults (.print a) [a] s ∧
    (s.hasReg a →
      exec (.print a) s = .next { s.advanced with out := s.out ++ [int32 (s.reg a)] })

/-- R25, R106: the text form of a value is its sign, its decimal digits without a leading zero, and one
newline, and PRINT appends that line to the text (general knowledge in the spec, D25). -/
def Obligations.OutputTextForm : Prop :=
  (∀ v : Int, ∃ digits : List Char,
    outputLine v = (if v < 0 then ['-'] else []) ++ digits ++ ['\n'] ∧
      (∀ c ∈ digits, c.isDigit = true) ∧ (digits = ['0'] ∨ (digits ≠ [] ∧ digits.head? ≠ some '0')) ∧
      digits.foldl (fun n c => 10 * n + (c.toNat - 48)) 0 = v.natAbs) ∧
  (∀ (a : Nat) (s : State), s.hasReg a →
    ∃ t, exec (.print a) s = .next t ∧ t.outputText = s.outputText ++ outputLine (int32 (s.reg a)))

/-- R107: END halts and is counted, and leaves all else as it is. -/
def Obligations.EndOutcome : Prop :=
  ∀ s : State, exec .endRun s = .next { s.advanced with status := .halted }

/-! ### The host interface (70_reset_and_hazards.md, 60_exceptions.md) -/

/-- R119: `init` in any status gives every element its reset value, whatever the draws. -/
def Obligations.InitGivesResetValues : Prop :=
  ∀ (h d : Nat) (draw : Nat → Word) (rv : Word) (s : State),
    let t := hostInit h d draw rv s
    t.cfg = { s.cfg with stackCap := h, callDepthCap := d } ∧
    (∀ i, i < h → t.stack.read i = draw i) ∧ t.bp = 0 ∧ t.sp = 0 ∧ t.pc = 0 ∧ t.cs = [] ∧ t.rv = rv ∧
    (∀ i, t.globals.read i = 0) ∧ (∀ k, lookup t.methods k = none) ∧
    t.icount = 0 ∧ t.status = .idle ∧ t.fault = none ∧ t.out = []

/-- R120: `setMethod`. That the status is checked before the index is the model's choice (log 11). -/
def Obligations.SetMethodOutcomes : Prop :=
  ∀ (d : MethodDesc) (k : Int) (s : State),
    (s.status = .uninit → hostSetMethod d k s = .error .notInitialized) ∧
    (s.status = .idle ∨ s.status = .halted →
      (¬ (0 ≤ k ∧ k < s.cfg.methodCap) → hostSetMethod d k s = .error .indexOutOfRange) ∧
      (0 ≤ k → k < s.cfg.methodCap →
        ∃ table, hostSetMethod d k s = .ok { s with methods := table } ∧
          lookup table k.toNat = some d ∧ ∀ j, j ≠ k.toNat → lookup table j = lookup s.methods j))

/-- R121: `setStack`. That the status is checked before the index is the model's choice (log 11). -/
def Obligations.SetStackOutcomes : Prop :=
  ∀ (i : Int) (w : Word) (s : State), s.MemoryOk →
    (s.status = .uninit → hostSetStack i w s = .error .notInitialized) ∧
    (s.status = .idle ∨ s.status = .halted →
      (¬ (0 ≤ i ∧ i < s.cfg.stackCap) → hostSetStack i w s = .error .indexOutOfRange) ∧
      (0 ≤ i → i < s.cfg.stackCap →
        ∃ m, hostSetStack i w s = .ok { s with stack := m } ∧
          m.read i.toNat = w ∧ ∀ j, j ≠ i.toNat → m.read j = s.stack.read j))

/-- R123: the start of a run, its two errors in order, and what it keeps. -/
def Obligations.RunStartOutcomes : Prop :=
  ∀ (program : List Word) (entry : Int) (s : State),
    (s.status = .uninit ∨ s.status = .faulted → hostRun program entry s = .error .notInitialized) ∧
    (s.status = .idle ∨ s.status = .halted →
      (program = [] → hostRun program entry s = .error .noProgram) ∧
      (program ≠ [] →
        hostRun program entry s = .ok { s with
          prog := program, bp := 0, sp := 0, pc := wrap32 entry
          cs := [], icount := 0, fault := none, status := .running }))

/-- R114, R125: the abort of a Running core keeps all but the status and the record; `shutdown` of an Idle
or Halted core sets Uninit, after which every operation but `init` is refused. -/
def Obligations.AbortAndShutdownOutcomes : Prop :=
  ∀ s : State,
    (s.status = .running →
      hostAbort s = { s with status := .faulted, fault := some ⟨.aborted, s.pc, none, none⟩ } ∧
      (hostAbort s).runResult = some (.aborted s.icount)) ∧
    (s.status = .idle ∨ s.status = .halted →
      ∃ t, hostShutdown s = .ok t ∧ t = { s with status := .uninit } ∧
        (∀ d k, hostSetMethod d k t = .error .notInitialized) ∧
        (∀ i w, hostSetStack i w t = .error .notInitialized) ∧
        (∀ p e, hostRun p e t = .error .notInitialized) ∧
        hostShutdown t = .error .notInitialized)

/-- R112, R124: what a run returns: after END its count, after a fault the report of code, kind, pc0, word,
info and count; a run under a budget always returns one of the three results. The codes are R108's. -/
def Obligations.RunResultOutcomes : Prop :=
  (∀ s : State, s.status = .halted → s.runResult = some (.executed s.icount)) ∧
  (∀ s t : State, s.status = .running → step s = .next t → t.status = .faulted →
    ∃ (kind : FaultKind) (code : Nat) (info : Int),
      kind.code = some code ∧ t = s.faultedAt s.wordAtPc kind info ∧
        t.runResult = some (.faultReport (some code) kind s.pc s.wordAtPc (some info) s.icount)) ∧
  (∀ (n : Nat) (program : List Word) (entry : Int) (s t : State),
    hostRunBudget n program entry s = .ok t →
      (t.status = .halted ∨ t.status = .faulted) ∧ t.runResult ≠ none) ∧
  [FaultKind.unknownOpcode, .fetchOutOfRange, .registerOutOfRange, .stackOutOfRange, .globalOutOfRange,
    .methodOutOfRange, .unregisteredMethod, .callStackOverflow, .callStackUnderflow, .divideByZero,
    .divideOverflow, .conversionFault, .integerOverflow].map FaultKind.code = (List.range' 1 13).map some ∧
  FaultKind.aborted.code = none

/-- R58, R114, R124: the count a run returns is the number of steps that completed: an abort after `n`
steps returns `n`. -/
def Obligations.AbortedRunReturnsItsBudget : Prop :=
  ∀ (n : Nat) (program : List Word) (entry : Int) (s t : State) (c : BitVec 64),
    hostRunBudget n program entry s = .ok t → t.runResult = some (.aborted c) → c = BitVec.ofNat 64 n

/-- The host's operations keep the invariant (R119 to R125); `init` starts it, whatever the draws. -/
def Obligations.HostOperationsKeepStateOk : Prop :=
  ∀ s : State,
    (∀ h d draw rv, (hostInit h d draw rv s).Ok) ∧
    (s.Ok → (∀ d k t, hostSetMethod d k s = .ok t → t.Ok) ∧ (∀ i w t, hostSetStack i w s = .ok t → t.Ok) ∧
      (∀ p e t, hostRun p e s = .ok t → t.Ok) ∧ (hostAbort s).Ok ∧
      (∀ t, hostShutdown s = .ok t → t.Ok))
end

