-- ==== Sys2Proof/Laws/Memory.lean ====
section
/-! SUPPORT. The laws of the sparse stores: a read after a write, and the canonical form, which every memory
operation keeps. -/

namespace Sys2Proof.Machine

section Sparse
variable {α : Type} (m : List (Nat × α)) (a b : Nat) (v : α)

@[simp] theorem lookup_nil : lookup ([] : List (Nat × α)) a = none := rfl

@[simp] theorem lookup_cons (p : Nat × α) :
    lookup (p :: m) a = if a = p.1 then some p.2 else lookup m a := rfl

theorem mem_of_lookup : lookup m a = some v → (a, v) ∈ m := by
  induction m with
  | nil => simp
  | cons p m ih =>
    obtain ⟨c, w⟩ := p
    by_cases h : a = c
    · simp only [lookup_cons, h, if_true, Option.some.injEq]; rintro rfl; simp
    · simp only [lookup_cons, h, if_false]; exact fun e => List.mem_cons_of_mem _ (ih e)

theorem lookup_of_below {m : List (Nat × α)} (h : ∀ c ∈ m, a < c.1) : lookup m a = none := by
  induction m with
  | nil => rfl
  | cons p m ih =>
    have hp := h p (by simp)
    simp only [lookup_cons, show ¬ a = p.1 by omega, if_false]
    exact ih fun c hc => h c (List.mem_cons_of_mem _ hc)

theorem lookup_insertAt : lookup (insertAt m a v) b = if b = a then some v else lookup m b := by
  induction m with
  | nil => simp [insertAt]
  | cons p m ih =>
    obtain ⟨c, w⟩ := p
    simp only [insertAt]
    split_ifs <;> simp_all

theorem lookup_removeAt (h : Rising m) :
    lookup (removeAt m a) b = if b = a then none else lookup m b := by
  induction m with
  | nil => simp [removeAt]
  | cons p m ih =>
    obtain ⟨c, w⟩ := p
    rw [Rising, List.pairwise_cons] at h
    simp only [removeAt]
    by_cases hac : a = c
    · subst hac
      have hn : lookup m a = none := lookup_of_below a h.1
      by_cases hb : b = a <;> simp_all
    · simp only [hac, if_false, lookup_cons, ih h.2]
      by_cases hb : b = a
      · subst hb; simp [hac]
      · simp [hb]

theorem mem_insertAt {m : List (Nat × α)} {p : Nat × α} (h : p ∈ insertAt m a v) :
    p = (a, v) ∨ p ∈ m := by
  induction m with
  | nil => simpa [insertAt] using h
  | cons q m ih =>
    obtain ⟨c, w⟩ := q
    simp only [insertAt] at h
    split_ifs at h <;> simp only [List.mem_cons] at h ⊢ <;> tauto

theorem mem_removeAt {m : List (Nat × α)} {p : Nat × α} (h : p ∈ removeAt m a) : p ∈ m := by
  induction m with
  | nil => simp [removeAt] at h
  | cons q m ih =>
    obtain ⟨c, w⟩ := q
    simp only [removeAt] at h
    split_ifs at h <;> simp only [List.mem_cons] at h ⊢ <;> tauto

theorem rising_insertAt {m : List (Nat × α)} (h : Rising m) : Rising (insertAt m a v) := by
  induction m with
  | nil => simp [insertAt]
  | cons q m ih =>
    obtain ⟨c, w⟩ := q
    have hc := List.pairwise_cons.mp h
    simp only [insertAt]
    split_ifs with h1 h2
    · exact List.pairwise_cons.mpr ⟨fun p hp => by
        rcases List.mem_cons.mp hp with rfl | hp
        · exact h1
        · exact Nat.lt_trans h1 (hc.1 p hp), h⟩
    · subst h2; exact List.pairwise_cons.mpr hc
    · exact List.pairwise_cons.mpr ⟨fun p hp => by
        rcases mem_insertAt a v hp with rfl | hp
        · show c < a; omega
        · exact hc.1 p hp, ih hc.2⟩

theorem rising_removeAt {m : List (Nat × α)} (h : Rising m) : Rising (removeAt m a) := by
  induction m with
  | nil => simp [removeAt]
  | cons q m ih =>
    obtain ⟨c, w⟩ := q
    have hc := List.pairwise_cons.mp h
    simp only [removeAt]
    split_ifs with h1
    · exact hc.2
    · exact List.pairwise_cons.mpr ⟨fun p hp => hc.1 p (mem_removeAt a hp), ih hc.2⟩

end Sparse

/-- A write keeps the canonical form. -/
theorem Memory.write_wf {m : Memory} (h : m.wf) (a : Nat) (v : Word) : (m.write a v).wf := by
  unfold Memory.write
  split_ifs with hv
  · exact ⟨rising_removeAt a h.1, fun c hc => h.2 c (mem_removeAt a hc)⟩
  · refine ⟨rising_insertAt a v h.1, fun c hc => ?_⟩
    rcases mem_insertAt a v hc with rfl | hc
    · exact hv
    · exact h.2 c hc

/-- A write below a capacity keeps every listed index below it. -/
theorem Memory.write_below {m : Memory} {cap a : Nat} (h : Below m cap) (ha : a < cap) (v : Word) :
    Below (m.write a v) cap := by
  unfold Memory.write
  split_ifs
  · exact fun c hc => h c (mem_removeAt a hc)
  · intro c hc
    rcases mem_insertAt a v hc with rfl | hc
    · exact ha
    · exact h c hc

theorem below_insertAt {α : Type} {m : List (Nat × α)} {cap a : Nat} (h : Below m cap) (ha : a < cap)
    (v : α) : Below (insertAt m a v) cap := by
  intro c hc
  rcases mem_insertAt a v hc with rfl | hc
  · exact ha
  · exact h c hc

/-- The store `init` builds from its draws is canonical and inside its capacity. -/
theorem Memory.tabulate_wf (f : Nat → Word) (n : Nat) :
    (Memory.tabulate f n).wf ∧ Below (Memory.tabulate f n) n := by
  induction n with
  | zero => exact ⟨⟨List.Pairwise.nil, by simp [Memory.tabulate]⟩, by simp [Memory.tabulate]⟩
  | succ n ih =>
    exact ⟨Memory.write_wf ih.1 _ _,
      Memory.write_below (fun c hc => Nat.lt_succ_of_lt (ih.2 c hc)) (Nat.lt_succ_self n) _⟩

/-- The memories of the reset state have the canonical form. -/
theorem reset_memory_wf : State.reset.stack.wf ∧ State.reset.globals.wf := by decide

end Sys2Proof.Machine
end

