-- ==== Sys2Proof/Laws/State.lean ====
section
/-! SUPPORT. One lemma per field per update of the state, so that no proof unfolds a record update. -/

namespace Sys2Proof.Machine.State

@[simp] theorem setStack_stack (s : State) (m : Memory) : (s.setStack m).stack = m := rfl
@[simp] theorem setStack_bp (s : State) (m : Memory) : (s.setStack m).bp = s.bp := rfl
@[simp] theorem setStack_sp (s : State) (m : Memory) : (s.setStack m).sp = s.sp := rfl
@[simp] theorem setStack_pc (s : State) (m : Memory) : (s.setStack m).pc = s.pc := rfl
@[simp] theorem setStack_cs (s : State) (m : Memory) : (s.setStack m).cs = s.cs := rfl
@[simp] theorem setStack_rv (s : State) (m : Memory) : (s.setStack m).rv = s.rv := rfl
@[simp] theorem setStack_globals (s : State) (m : Memory) : (s.setStack m).globals = s.globals := rfl
@[simp] theorem setStack_methods (s : State) (m : Memory) : (s.setStack m).methods = s.methods := rfl
@[simp] theorem setStack_icount (s : State) (m : Memory) : (s.setStack m).icount = s.icount := rfl
@[simp] theorem setStack_status (s : State) (m : Memory) : (s.setStack m).status = s.status := rfl
@[simp] theorem setStack_fault (s : State) (m : Memory) : (s.setStack m).fault = s.fault := rfl
@[simp] theorem setStack_out (s : State) (m : Memory) : (s.setStack m).out = s.out := rfl
@[simp] theorem setStack_prog (s : State) (m : Memory) : (s.setStack m).prog = s.prog := rfl
@[simp] theorem setStack_cfg (s : State) (m : Memory) : (s.setStack m).cfg = s.cfg := rfl
@[simp] theorem setStack_nanDraws (s : State) (m : Memory) : (s.setStack m).nanDraws = s.nanDraws := rfl

@[simp] theorem setSp_stack (s : State) (v : Word) : (s.setSp v).stack = s.stack := rfl
@[simp] theorem setSp_bp (s : State) (v : Word) : (s.setSp v).bp = s.bp := rfl
@[simp] theorem setSp_sp (s : State) (v : Word) : (s.setSp v).sp = v := rfl
@[simp] theorem setSp_pc (s : State) (v : Word) : (s.setSp v).pc = s.pc := rfl
@[simp] theorem setSp_cs (s : State) (v : Word) : (s.setSp v).cs = s.cs := rfl
@[simp] theorem setSp_rv (s : State) (v : Word) : (s.setSp v).rv = s.rv := rfl
@[simp] theorem setSp_globals (s : State) (v : Word) : (s.setSp v).globals = s.globals := rfl
@[simp] theorem setSp_methods (s : State) (v : Word) : (s.setSp v).methods = s.methods := rfl
@[simp] theorem setSp_icount (s : State) (v : Word) : (s.setSp v).icount = s.icount := rfl
@[simp] theorem setSp_status (s : State) (v : Word) : (s.setSp v).status = s.status := rfl
@[simp] theorem setSp_fault (s : State) (v : Word) : (s.setSp v).fault = s.fault := rfl
@[simp] theorem setSp_out (s : State) (v : Word) : (s.setSp v).out = s.out := rfl
@[simp] theorem setSp_prog (s : State) (v : Word) : (s.setSp v).prog = s.prog := rfl
@[simp] theorem setSp_cfg (s : State) (v : Word) : (s.setSp v).cfg = s.cfg := rfl
@[simp] theorem setSp_nanDraws (s : State) (v : Word) : (s.setSp v).nanDraws = s.nanDraws := rfl

@[simp] theorem setPc_stack (s : State) (v : Word) : (s.setPc v).stack = s.stack := rfl
@[simp] theorem setPc_bp (s : State) (v : Word) : (s.setPc v).bp = s.bp := rfl
@[simp] theorem setPc_sp (s : State) (v : Word) : (s.setPc v).sp = s.sp := rfl
@[simp] theorem setPc_pc (s : State) (v : Word) : (s.setPc v).pc = v := rfl
@[simp] theorem setPc_cs (s : State) (v : Word) : (s.setPc v).cs = s.cs := rfl
@[simp] theorem setPc_rv (s : State) (v : Word) : (s.setPc v).rv = s.rv := rfl
@[simp] theorem setPc_globals (s : State) (v : Word) : (s.setPc v).globals = s.globals := rfl
@[simp] theorem setPc_methods (s : State) (v : Word) : (s.setPc v).methods = s.methods := rfl
@[simp] theorem setPc_icount (s : State) (v : Word) : (s.setPc v).icount = s.icount := rfl
@[simp] theorem setPc_status (s : State) (v : Word) : (s.setPc v).status = s.status := rfl
@[simp] theorem setPc_fault (s : State) (v : Word) : (s.setPc v).fault = s.fault := rfl
@[simp] theorem setPc_out (s : State) (v : Word) : (s.setPc v).out = s.out := rfl
@[simp] theorem setPc_prog (s : State) (v : Word) : (s.setPc v).prog = s.prog := rfl
@[simp] theorem setPc_cfg (s : State) (v : Word) : (s.setPc v).cfg = s.cfg := rfl
@[simp] theorem setPc_nanDraws (s : State) (v : Word) : (s.setPc v).nanDraws = s.nanDraws := rfl

@[simp] theorem setFrame_stack (s : State) (f : Frame) : (s.setFrame f).stack = s.stack := rfl
@[simp] theorem setFrame_bp (s : State) (f : Frame) : (s.setFrame f).bp = f.bp := rfl
@[simp] theorem setFrame_sp (s : State) (f : Frame) : (s.setFrame f).sp = f.sp := rfl
@[simp] theorem setFrame_pc (s : State) (f : Frame) : (s.setFrame f).pc = f.pc := rfl
@[simp] theorem setFrame_cs (s : State) (f : Frame) : (s.setFrame f).cs = s.cs := rfl
@[simp] theorem setFrame_rv (s : State) (f : Frame) : (s.setFrame f).rv = s.rv := rfl
@[simp] theorem setFrame_globals (s : State) (f : Frame) : (s.setFrame f).globals = s.globals := rfl
@[simp] theorem setFrame_methods (s : State) (f : Frame) : (s.setFrame f).methods = s.methods := rfl
@[simp] theorem setFrame_icount (s : State) (f : Frame) : (s.setFrame f).icount = s.icount := rfl
@[simp] theorem setFrame_status (s : State) (f : Frame) : (s.setFrame f).status = s.status := rfl
@[simp] theorem setFrame_fault (s : State) (f : Frame) : (s.setFrame f).fault = s.fault := rfl
@[simp] theorem setFrame_out (s : State) (f : Frame) : (s.setFrame f).out = s.out := rfl
@[simp] theorem setFrame_prog (s : State) (f : Frame) : (s.setFrame f).prog = s.prog := rfl
@[simp] theorem setFrame_cfg (s : State) (f : Frame) : (s.setFrame f).cfg = s.cfg := rfl
@[simp] theorem setFrame_nanDraws (s : State) (f : Frame) : (s.setFrame f).nanDraws = s.nanDraws := rfl

@[simp] theorem setCs_stack (s : State) (l : List Frame) : (s.setCs l).stack = s.stack := rfl
@[simp] theorem setCs_bp (s : State) (l : List Frame) : (s.setCs l).bp = s.bp := rfl
@[simp] theorem setCs_sp (s : State) (l : List Frame) : (s.setCs l).sp = s.sp := rfl
@[simp] theorem setCs_pc (s : State) (l : List Frame) : (s.setCs l).pc = s.pc := rfl
@[simp] theorem setCs_cs (s : State) (l : List Frame) : (s.setCs l).cs = l := rfl
@[simp] theorem setCs_rv (s : State) (l : List Frame) : (s.setCs l).rv = s.rv := rfl
@[simp] theorem setCs_globals (s : State) (l : List Frame) : (s.setCs l).globals = s.globals := rfl
@[simp] theorem setCs_methods (s : State) (l : List Frame) : (s.setCs l).methods = s.methods := rfl
@[simp] theorem setCs_icount (s : State) (l : List Frame) : (s.setCs l).icount = s.icount := rfl
@[simp] theorem setCs_status (s : State) (l : List Frame) : (s.setCs l).status = s.status := rfl
@[simp] theorem setCs_fault (s : State) (l : List Frame) : (s.setCs l).fault = s.fault := rfl
@[simp] theorem setCs_out (s : State) (l : List Frame) : (s.setCs l).out = s.out := rfl
@[simp] theorem setCs_prog (s : State) (l : List Frame) : (s.setCs l).prog = s.prog := rfl
@[simp] theorem setCs_cfg (s : State) (l : List Frame) : (s.setCs l).cfg = s.cfg := rfl
@[simp] theorem setCs_nanDraws (s : State) (l : List Frame) : (s.setCs l).nanDraws = s.nanDraws := rfl

@[simp] theorem setRv_stack (s : State) (v : Word) : (s.setRv v).stack = s.stack := rfl
@[simp] theorem setRv_bp (s : State) (v : Word) : (s.setRv v).bp = s.bp := rfl
@[simp] theorem setRv_sp (s : State) (v : Word) : (s.setRv v).sp = s.sp := rfl
@[simp] theorem setRv_pc (s : State) (v : Word) : (s.setRv v).pc = s.pc := rfl
@[simp] theorem setRv_cs (s : State) (v : Word) : (s.setRv v).cs = s.cs := rfl
@[simp] theorem setRv_rv (s : State) (v : Word) : (s.setRv v).rv = v := rfl
@[simp] theorem setRv_globals (s : State) (v : Word) : (s.setRv v).globals = s.globals := rfl
@[simp] theorem setRv_methods (s : State) (v : Word) : (s.setRv v).methods = s.methods := rfl
@[simp] theorem setRv_icount (s : State) (v : Word) : (s.setRv v).icount = s.icount := rfl
@[simp] theorem setRv_status (s : State) (v : Word) : (s.setRv v).status = s.status := rfl
@[simp] theorem setRv_fault (s : State) (v : Word) : (s.setRv v).fault = s.fault := rfl
@[simp] theorem setRv_out (s : State) (v : Word) : (s.setRv v).out = s.out := rfl
@[simp] theorem setRv_prog (s : State) (v : Word) : (s.setRv v).prog = s.prog := rfl
@[simp] theorem setRv_cfg (s : State) (v : Word) : (s.setRv v).cfg = s.cfg := rfl
@[simp] theorem setRv_nanDraws (s : State) (v : Word) : (s.setRv v).nanDraws = s.nanDraws := rfl

@[simp] theorem setGlobals_stack (s : State) (m : Memory) : (s.setGlobals m).stack = s.stack := rfl
@[simp] theorem setGlobals_bp (s : State) (m : Memory) : (s.setGlobals m).bp = s.bp := rfl
@[simp] theorem setGlobals_sp (s : State) (m : Memory) : (s.setGlobals m).sp = s.sp := rfl
@[simp] theorem setGlobals_pc (s : State) (m : Memory) : (s.setGlobals m).pc = s.pc := rfl
@[simp] theorem setGlobals_cs (s : State) (m : Memory) : (s.setGlobals m).cs = s.cs := rfl
@[simp] theorem setGlobals_rv (s : State) (m : Memory) : (s.setGlobals m).rv = s.rv := rfl
@[simp] theorem setGlobals_globals (s : State) (m : Memory) : (s.setGlobals m).globals = m := rfl
@[simp] theorem setGlobals_methods (s : State) (m : Memory) : (s.setGlobals m).methods = s.methods := rfl
@[simp] theorem setGlobals_icount (s : State) (m : Memory) : (s.setGlobals m).icount = s.icount := rfl
@[simp] theorem setGlobals_status (s : State) (m : Memory) : (s.setGlobals m).status = s.status := rfl
@[simp] theorem setGlobals_fault (s : State) (m : Memory) : (s.setGlobals m).fault = s.fault := rfl
@[simp] theorem setGlobals_out (s : State) (m : Memory) : (s.setGlobals m).out = s.out := rfl
@[simp] theorem setGlobals_prog (s : State) (m : Memory) : (s.setGlobals m).prog = s.prog := rfl
@[simp] theorem setGlobals_cfg (s : State) (m : Memory) : (s.setGlobals m).cfg = s.cfg := rfl
@[simp] theorem setGlobals_nanDraws (s : State) (m : Memory) : (s.setGlobals m).nanDraws = s.nanDraws := rfl

@[simp] theorem setMethods_stack (s : State) (t : MethodTable) : (s.setMethods t).stack = s.stack := rfl
@[simp] theorem setMethods_bp (s : State) (t : MethodTable) : (s.setMethods t).bp = s.bp := rfl
@[simp] theorem setMethods_sp (s : State) (t : MethodTable) : (s.setMethods t).sp = s.sp := rfl
@[simp] theorem setMethods_pc (s : State) (t : MethodTable) : (s.setMethods t).pc = s.pc := rfl
@[simp] theorem setMethods_cs (s : State) (t : MethodTable) : (s.setMethods t).cs = s.cs := rfl
@[simp] theorem setMethods_rv (s : State) (t : MethodTable) : (s.setMethods t).rv = s.rv := rfl
@[simp] theorem setMethods_globals (s : State) (t : MethodTable) : (s.setMethods t).globals = s.globals := rfl
@[simp] theorem setMethods_methods (s : State) (t : MethodTable) : (s.setMethods t).methods = t := rfl
@[simp] theorem setMethods_icount (s : State) (t : MethodTable) : (s.setMethods t).icount = s.icount := rfl
@[simp] theorem setMethods_status (s : State) (t : MethodTable) : (s.setMethods t).status = s.status := rfl
@[simp] theorem setMethods_fault (s : State) (t : MethodTable) : (s.setMethods t).fault = s.fault := rfl
@[simp] theorem setMethods_out (s : State) (t : MethodTable) : (s.setMethods t).out = s.out := rfl
@[simp] theorem setMethods_prog (s : State) (t : MethodTable) : (s.setMethods t).prog = s.prog := rfl
@[simp] theorem setMethods_cfg (s : State) (t : MethodTable) : (s.setMethods t).cfg = s.cfg := rfl
@[simp] theorem setMethods_nanDraws (s : State) (t : MethodTable) : (s.setMethods t).nanDraws = s.nanDraws := rfl

@[simp] theorem setIcount_stack (s : State) (n : BitVec 64) : (s.setIcount n).stack = s.stack := rfl
@[simp] theorem setIcount_bp (s : State) (n : BitVec 64) : (s.setIcount n).bp = s.bp := rfl
@[simp] theorem setIcount_sp (s : State) (n : BitVec 64) : (s.setIcount n).sp = s.sp := rfl
@[simp] theorem setIcount_pc (s : State) (n : BitVec 64) : (s.setIcount n).pc = s.pc := rfl
@[simp] theorem setIcount_cs (s : State) (n : BitVec 64) : (s.setIcount n).cs = s.cs := rfl
@[simp] theorem setIcount_rv (s : State) (n : BitVec 64) : (s.setIcount n).rv = s.rv := rfl
@[simp] theorem setIcount_globals (s : State) (n : BitVec 64) : (s.setIcount n).globals = s.globals := rfl
@[simp] theorem setIcount_methods (s : State) (n : BitVec 64) : (s.setIcount n).methods = s.methods := rfl
@[simp] theorem setIcount_icount (s : State) (n : BitVec 64) : (s.setIcount n).icount = n := rfl
@[simp] theorem setIcount_status (s : State) (n : BitVec 64) : (s.setIcount n).status = s.status := rfl
@[simp] theorem setIcount_fault (s : State) (n : BitVec 64) : (s.setIcount n).fault = s.fault := rfl
@[simp] theorem setIcount_out (s : State) (n : BitVec 64) : (s.setIcount n).out = s.out := rfl
@[simp] theorem setIcount_prog (s : State) (n : BitVec 64) : (s.setIcount n).prog = s.prog := rfl
@[simp] theorem setIcount_cfg (s : State) (n : BitVec 64) : (s.setIcount n).cfg = s.cfg := rfl
@[simp] theorem setIcount_nanDraws (s : State) (n : BitVec 64) : (s.setIcount n).nanDraws = s.nanDraws := rfl

@[simp] theorem setStatus_stack (s : State) (t : Status) : (s.setStatus t).stack = s.stack := rfl
@[simp] theorem setStatus_bp (s : State) (t : Status) : (s.setStatus t).bp = s.bp := rfl
@[simp] theorem setStatus_sp (s : State) (t : Status) : (s.setStatus t).sp = s.sp := rfl
@[simp] theorem setStatus_pc (s : State) (t : Status) : (s.setStatus t).pc = s.pc := rfl
@[simp] theorem setStatus_cs (s : State) (t : Status) : (s.setStatus t).cs = s.cs := rfl
@[simp] theorem setStatus_rv (s : State) (t : Status) : (s.setStatus t).rv = s.rv := rfl
@[simp] theorem setStatus_globals (s : State) (t : Status) : (s.setStatus t).globals = s.globals := rfl
@[simp] theorem setStatus_methods (s : State) (t : Status) : (s.setStatus t).methods = s.methods := rfl
@[simp] theorem setStatus_icount (s : State) (t : Status) : (s.setStatus t).icount = s.icount := rfl
@[simp] theorem setStatus_status (s : State) (t : Status) : (s.setStatus t).status = t := rfl
@[simp] theorem setStatus_fault (s : State) (t : Status) : (s.setStatus t).fault = s.fault := rfl
@[simp] theorem setStatus_out (s : State) (t : Status) : (s.setStatus t).out = s.out := rfl
@[simp] theorem setStatus_prog (s : State) (t : Status) : (s.setStatus t).prog = s.prog := rfl
@[simp] theorem setStatus_cfg (s : State) (t : Status) : (s.setStatus t).cfg = s.cfg := rfl
@[simp] theorem setStatus_nanDraws (s : State) (t : Status) : (s.setStatus t).nanDraws = s.nanDraws := rfl

@[simp] theorem setFault_stack (s : State) (r : Option FaultRecord) : (s.setFault r).stack = s.stack := rfl
@[simp] theorem setFault_bp (s : State) (r : Option FaultRecord) : (s.setFault r).bp = s.bp := rfl
@[simp] theorem setFault_sp (s : State) (r : Option FaultRecord) : (s.setFault r).sp = s.sp := rfl
@[simp] theorem setFault_pc (s : State) (r : Option FaultRecord) : (s.setFault r).pc = s.pc := rfl
@[simp] theorem setFault_cs (s : State) (r : Option FaultRecord) : (s.setFault r).cs = s.cs := rfl
@[simp] theorem setFault_rv (s : State) (r : Option FaultRecord) : (s.setFault r).rv = s.rv := rfl
@[simp] theorem setFault_globals (s : State) (r : Option FaultRecord) : (s.setFault r).globals = s.globals := rfl
@[simp] theorem setFault_methods (s : State) (r : Option FaultRecord) : (s.setFault r).methods = s.methods := rfl
@[simp] theorem setFault_icount (s : State) (r : Option FaultRecord) : (s.setFault r).icount = s.icount := rfl
@[simp] theorem setFault_status (s : State) (r : Option FaultRecord) : (s.setFault r).status = s.status := rfl
@[simp] theorem setFault_fault (s : State) (r : Option FaultRecord) : (s.setFault r).fault = r := rfl
@[simp] theorem setFault_out (s : State) (r : Option FaultRecord) : (s.setFault r).out = s.out := rfl
@[simp] theorem setFault_prog (s : State) (r : Option FaultRecord) : (s.setFault r).prog = s.prog := rfl
@[simp] theorem setFault_cfg (s : State) (r : Option FaultRecord) : (s.setFault r).cfg = s.cfg := rfl
@[simp] theorem setFault_nanDraws (s : State) (r : Option FaultRecord) : (s.setFault r).nanDraws = s.nanDraws := rfl

@[simp] theorem setOut_stack (s : State) (o : List Int) : (s.setOut o).stack = s.stack := rfl
@[simp] theorem setOut_bp (s : State) (o : List Int) : (s.setOut o).bp = s.bp := rfl
@[simp] theorem setOut_sp (s : State) (o : List Int) : (s.setOut o).sp = s.sp := rfl
@[simp] theorem setOut_pc (s : State) (o : List Int) : (s.setOut o).pc = s.pc := rfl
@[simp] theorem setOut_cs (s : State) (o : List Int) : (s.setOut o).cs = s.cs := rfl
@[simp] theorem setOut_rv (s : State) (o : List Int) : (s.setOut o).rv = s.rv := rfl
@[simp] theorem setOut_globals (s : State) (o : List Int) : (s.setOut o).globals = s.globals := rfl
@[simp] theorem setOut_methods (s : State) (o : List Int) : (s.setOut o).methods = s.methods := rfl
@[simp] theorem setOut_icount (s : State) (o : List Int) : (s.setOut o).icount = s.icount := rfl
@[simp] theorem setOut_status (s : State) (o : List Int) : (s.setOut o).status = s.status := rfl
@[simp] theorem setOut_fault (s : State) (o : List Int) : (s.setOut o).fault = s.fault := rfl
@[simp] theorem setOut_out (s : State) (o : List Int) : (s.setOut o).out = o := rfl
@[simp] theorem setOut_prog (s : State) (o : List Int) : (s.setOut o).prog = s.prog := rfl
@[simp] theorem setOut_cfg (s : State) (o : List Int) : (s.setOut o).cfg = s.cfg := rfl
@[simp] theorem setOut_nanDraws (s : State) (o : List Int) : (s.setOut o).nanDraws = s.nanDraws := rfl

@[simp] theorem setNanDraws_stack (s : State) (n : Nat) : (s.setNanDraws n).stack = s.stack := rfl
@[simp] theorem setNanDraws_bp (s : State) (n : Nat) : (s.setNanDraws n).bp = s.bp := rfl
@[simp] theorem setNanDraws_sp (s : State) (n : Nat) : (s.setNanDraws n).sp = s.sp := rfl
@[simp] theorem setNanDraws_pc (s : State) (n : Nat) : (s.setNanDraws n).pc = s.pc := rfl
@[simp] theorem setNanDraws_cs (s : State) (n : Nat) : (s.setNanDraws n).cs = s.cs := rfl
@[simp] theorem setNanDraws_rv (s : State) (n : Nat) : (s.setNanDraws n).rv = s.rv := rfl
@[simp] theorem setNanDraws_globals (s : State) (n : Nat) : (s.setNanDraws n).globals = s.globals := rfl
@[simp] theorem setNanDraws_methods (s : State) (n : Nat) : (s.setNanDraws n).methods = s.methods := rfl
@[simp] theorem setNanDraws_icount (s : State) (n : Nat) : (s.setNanDraws n).icount = s.icount := rfl
@[simp] theorem setNanDraws_status (s : State) (n : Nat) : (s.setNanDraws n).status = s.status := rfl
@[simp] theorem setNanDraws_fault (s : State) (n : Nat) : (s.setNanDraws n).fault = s.fault := rfl
@[simp] theorem setNanDraws_out (s : State) (n : Nat) : (s.setNanDraws n).out = s.out := rfl
@[simp] theorem setNanDraws_prog (s : State) (n : Nat) : (s.setNanDraws n).prog = s.prog := rfl
@[simp] theorem setNanDraws_cfg (s : State) (n : Nat) : (s.setNanDraws n).cfg = s.cfg := rfl
@[simp] theorem setNanDraws_nanDraws (s : State) (n : Nat) : (s.setNanDraws n).nanDraws = n := rfl

@[simp] theorem addPc_stack (s : State) (k : Int) : (s.addPc k).stack = s.stack := rfl
@[simp] theorem addPc_bp (s : State) (k : Int) : (s.addPc k).bp = s.bp := rfl
@[simp] theorem addPc_sp (s : State) (k : Int) : (s.addPc k).sp = s.sp := rfl
@[simp] theorem addPc_pc (s : State) (k : Int) : (s.addPc k).pc = wrap32 (int32 s.pc + k) := rfl
@[simp] theorem addPc_cs (s : State) (k : Int) : (s.addPc k).cs = s.cs := rfl
@[simp] theorem addPc_rv (s : State) (k : Int) : (s.addPc k).rv = s.rv := rfl
@[simp] theorem addPc_globals (s : State) (k : Int) : (s.addPc k).globals = s.globals := rfl
@[simp] theorem addPc_methods (s : State) (k : Int) : (s.addPc k).methods = s.methods := rfl
@[simp] theorem addPc_icount (s : State) (k : Int) : (s.addPc k).icount = s.icount := rfl
@[simp] theorem addPc_status (s : State) (k : Int) : (s.addPc k).status = s.status := rfl
@[simp] theorem addPc_fault (s : State) (k : Int) : (s.addPc k).fault = s.fault := rfl
@[simp] theorem addPc_out (s : State) (k : Int) : (s.addPc k).out = s.out := rfl
@[simp] theorem addPc_prog (s : State) (k : Int) : (s.addPc k).prog = s.prog := rfl
@[simp] theorem addPc_cfg (s : State) (k : Int) : (s.addPc k).cfg = s.cfg := rfl
@[simp] theorem addPc_nanDraws (s : State) (k : Int) : (s.addPc k).nanDraws = s.nanDraws := rfl

@[simp] theorem emit_stack (s : State) (v : Int) : (s.emit v).stack = s.stack := rfl
@[simp] theorem emit_bp (s : State) (v : Int) : (s.emit v).bp = s.bp := rfl
@[simp] theorem emit_sp (s : State) (v : Int) : (s.emit v).sp = s.sp := rfl
@[simp] theorem emit_pc (s : State) (v : Int) : (s.emit v).pc = s.pc := rfl
@[simp] theorem emit_cs (s : State) (v : Int) : (s.emit v).cs = s.cs := rfl
@[simp] theorem emit_rv (s : State) (v : Int) : (s.emit v).rv = s.rv := rfl
@[simp] theorem emit_globals (s : State) (v : Int) : (s.emit v).globals = s.globals := rfl
@[simp] theorem emit_methods (s : State) (v : Int) : (s.emit v).methods = s.methods := rfl
@[simp] theorem emit_icount (s : State) (v : Int) : (s.emit v).icount = s.icount := rfl
@[simp] theorem emit_status (s : State) (v : Int) : (s.emit v).status = s.status := rfl
@[simp] theorem emit_fault (s : State) (v : Int) : (s.emit v).fault = s.fault := rfl
@[simp] theorem emit_out (s : State) (v : Int) : (s.emit v).out = s.out ++ [v] := rfl
@[simp] theorem emit_prog (s : State) (v : Int) : (s.emit v).prog = s.prog := rfl
@[simp] theorem emit_cfg (s : State) (v : Int) : (s.emit v).cfg = s.cfg := rfl
@[simp] theorem emit_nanDraws (s : State) (v : Int) : (s.emit v).nanDraws = s.nanDraws := rfl

@[simp] theorem count_stack (s : State) : (s.count).stack = s.stack := rfl
@[simp] theorem count_bp (s : State) : (s.count).bp = s.bp := rfl
@[simp] theorem count_sp (s : State) : (s.count).sp = s.sp := rfl
@[simp] theorem count_pc (s : State) : (s.count).pc = s.pc := rfl
@[simp] theorem count_cs (s : State) : (s.count).cs = s.cs := rfl
@[simp] theorem count_rv (s : State) : (s.count).rv = s.rv := rfl
@[simp] theorem count_globals (s : State) : (s.count).globals = s.globals := rfl
@[simp] theorem count_methods (s : State) : (s.count).methods = s.methods := rfl
@[simp] theorem count_icount (s : State) : (s.count).icount = s.icount + 1 := rfl
@[simp] theorem count_status (s : State) : (s.count).status = s.status := rfl
@[simp] theorem count_fault (s : State) : (s.count).fault = s.fault := rfl
@[simp] theorem count_out (s : State) : (s.count).out = s.out := rfl
@[simp] theorem count_prog (s : State) : (s.count).prog = s.prog := rfl
@[simp] theorem count_cfg (s : State) : (s.count).cfg = s.cfg := rfl
@[simp] theorem count_nanDraws (s : State) : (s.count).nanDraws = s.nanDraws := rfl

@[simp] theorem raiseFault_stack (s : State) (t : Trap) : (s.raiseFault t).stack = s.stack := rfl
@[simp] theorem raiseFault_bp (s : State) (t : Trap) : (s.raiseFault t).bp = s.bp := rfl
@[simp] theorem raiseFault_sp (s : State) (t : Trap) : (s.raiseFault t).sp = s.sp := rfl
@[simp] theorem raiseFault_pc (s : State) (t : Trap) : (s.raiseFault t).pc = s.pc := rfl
@[simp] theorem raiseFault_cs (s : State) (t : Trap) : (s.raiseFault t).cs = s.cs := rfl
@[simp] theorem raiseFault_rv (s : State) (t : Trap) : (s.raiseFault t).rv = s.rv := rfl
@[simp] theorem raiseFault_globals (s : State) (t : Trap) : (s.raiseFault t).globals = s.globals := rfl
@[simp] theorem raiseFault_methods (s : State) (t : Trap) : (s.raiseFault t).methods = s.methods := rfl
@[simp] theorem raiseFault_icount (s : State) (t : Trap) : (s.raiseFault t).icount = s.icount := rfl
@[simp] theorem raiseFault_status (s : State) (t : Trap) : (s.raiseFault t).status = .faulted := rfl
@[simp] theorem raiseFault_fault (s : State) (t : Trap) : (s.raiseFault t).fault = some ⟨t.kind, s.pc, s.fetch, some t.info⟩ := rfl
@[simp] theorem raiseFault_out (s : State) (t : Trap) : (s.raiseFault t).out = s.out := rfl
@[simp] theorem raiseFault_prog (s : State) (t : Trap) : (s.raiseFault t).prog = s.prog := rfl
@[simp] theorem raiseFault_cfg (s : State) (t : Trap) : (s.raiseFault t).cfg = s.cfg := rfl
@[simp] theorem raiseFault_nanDraws (s : State) (t : Trap) : (s.raiseFault t).nanDraws = s.nanDraws := rfl

end Sys2Proof.Machine.State
end

