-- ==== Sys2Proof/Laws/Ops.lean ====
section
/-! SUPPORT. What each shared operation can do, said once: if it answers, how; if it raises a fault, which.
Proofs about the meanings cite these and do not unfold the operations. -/

namespace Sys2Proof.Machine

/-! Sequencing. -/

@[simp] theorem bind_ok {α β : Type} (a : α) (f : α → Except Trap β) : (Except.ok a >>= f) = f a := rfl

@[simp] theorem bind_error {α β : Type} (t : Trap) (f : α → Except Trap β) :
    (Except.error t >>= f) = Except.error t := rfl

theorem bind_eq_ok {α β : Type} {x : Except Trap α} {f : α → Except Trap β} {b : β} :
    (x >>= f) = .ok b ↔ ∃ a, x = .ok a ∧ f a = .ok b := by
  cases x <;> simp

/-! Slots and registers. -/

theorem slot_eq_ok {s : State} {k : FaultKind} {a : Int} {n : Nat} :
    s.slot k a = .ok n ↔ 0 ≤ a ∧ a < s.cfg.stackCap ∧ n = a.toNat := by
  unfold State.slot
  split_ifs with h
  · simp; omega
  · simp only [Except.ok.injEq]; constructor
    · rintro rfl; omega
    · rintro ⟨_, _, rfl⟩; rfl

theorem slot_eq_error {s : State} {k : FaultKind} {a : Int} {t : Trap} :
    s.slot k a = .error t ↔ (a < 0 ∨ (s.cfg.stackCap : Int) ≤ a) ∧ t = ⟨k, a⟩ := by
  unfold State.slot
  split_ifs with h
  · simp [h, eq_comm]
  · simp [h]

theorem readReg_eq_ok {s : State} {n : Nat} {w : Word} :
    s.readReg n = .ok w ↔ ∃ a, s.regAddr n = .ok a ∧ w = s.stack.read a := by
  simp [State.readReg, bind_eq_ok, @eq_comm _ _ w]

theorem writeReg_eq_ok {s t : State} {n : Nat} {v : Word} :
    s.writeReg n v = .ok t ↔ ∃ a, s.regAddr n = .ok a ∧ t = s.setStack (s.stack.write a v) := by
  simp [State.writeReg, bind_eq_ok, @eq_comm _ _ t]

theorem readInt_eq_ok {s : State} {n : Nat} {x : Int} :
    s.readInt n = .ok x ↔ ∃ w, s.readReg n = .ok w ∧ x = int32 w := by
  simp [State.readInt, bind_eq_ok, @eq_comm _ _ x]

theorem readF32_eq_ok {s : State} {n : Nat} {x : FVal} :
    s.readF32 n = .ok x ↔ ∃ w, s.readReg n = .ok w ∧ x = asF32 w := by
  simp [State.readF32, bind_eq_ok, @eq_comm _ _ x]

/-- The advance moves no register. -/
@[simp] theorem addPc_slot (s : State) (k : Int) (f : FaultKind) (a : Int) :
    (s.addPc k).slot f a = s.slot f a := rfl

@[simp] theorem addPc_regAddr (s : State) (k : Int) (n : Nat) : (s.addPc k).regAddr n = s.regAddr n := rfl

@[simp] theorem addPc_readReg (s : State) (k : Int) (n : Nat) : (s.addPc k).readReg n = s.readReg n := rfl

@[simp] theorem addPc_readInt (s : State) (k : Int) (n : Nat) : (s.addPc k).readInt n = s.readInt n := rfl

@[simp] theorem addPc_readF32 (s : State) (k : Int) (n : Nat) : (s.addPc k).readF32 n = s.readF32 n := rfl

/-! Destinations. -/

/-- An integer destination that is written: the result was no fault, and its slot holds it. -/
theorem writeResult_eq_ok {s t : State} {n : Nat} {r : Except Trap Int} :
    s.writeResult n r = .ok t ↔
      ∃ v a, r = .ok v ∧ s.regAddr n = .ok a ∧ t = s.setStack (s.stack.write a (wrap32 v)) := by
  simp [State.writeResult, bind_eq_ok, writeReg_eq_ok]

/-- A fault at an integer destination is the result's fault, or, of a result that is no fault, the
destination's range fault. -/
theorem writeResult_eq_error {s : State} {n : Nat} {r : Except Trap Int} {t : Trap} :
    s.writeResult n r = .error t ↔ r = .error t ∨ (∃ v, r = .ok v) ∧ s.regAddr n = .error t := by
  cases r <;> cases h : s.regAddr n <;> simp [State.writeResult, State.writeReg, h]

theorem overflow_eq_ok {s : State} {v x : Int} :
    s.overflow v = .ok x ↔ x = v ∧ (s.cfg.ovfPolicy = .wrap ∨ inInt32 v) := by
  unfold State.overflow
  cases hp : s.cfg.ovfPolicy
  · simp [eq_comm]
  · by_cases hv : inInt32 v
    · rw [if_neg (fun c => c.2 hv)]
      simp only [Except.ok.injEq, @eq_comm _ v x]; exact ⟨fun h => ⟨h, .inr hv⟩, fun h => h.1⟩
    · rw [if_pos ⟨rfl, hv⟩]; simp [hv]

theorem writeInt_eq_ok {s t : State} {n : Nat} {v : Int} :
    s.writeInt n v = .ok t ↔
      (s.cfg.ovfPolicy = .wrap ∨ inInt32 v) ∧
        ∃ a, s.regAddr n = .ok a ∧ t = s.setStack (s.stack.write a (wrap32 v)) := by
  simp only [State.writeInt, writeResult_eq_ok, overflow_eq_ok]
  constructor
  · rintro ⟨_, a, ⟨rfl, hp⟩, h, rfl⟩; exact ⟨hp, a, h, rfl⟩
  · rintro ⟨hp, a, h, rfl⟩; exact ⟨v, a, ⟨rfl, hp⟩, h, rfl⟩

/-- A float destination that is written holds some word in its slot; only the draw count may move beside it. -/
theorem writeF32_ok {s t : State} {n : Nat} {v : FVal} (h : s.writeF32 n v = .ok t) :
    ∃ a w d, s.regAddr n = .ok a ∧ t = (s.setStack (s.stack.write a w)).setNanDraws d := by
  cases v with
  | some v =>
    obtain ⟨a, ha, rfl⟩ := writeReg_eq_ok.mp h
    exact ⟨a, _, s.nanDraws, ha, rfl⟩
  | none =>
    obtain ⟨u, hu, e⟩ := bind_eq_ok.mp h
    obtain ⟨a, ha, rfl⟩ := writeReg_eq_ok.mp hu
    exact ⟨a, _, _, ha, (Except.ok.inj e).symm⟩

/-! Global store, method table, frames. -/

theorem globalIndex_eq_ok {s : State} {i n : Nat} :
    s.globalIndex i = .ok n ↔ i < s.cfg.globalCap ∧ n = i := by
  unfold State.globalIndex
  split_ifs with h
  · simp; omega
  · simp only [Except.ok.injEq]; constructor
    · rintro rfl; exact ⟨by omega, rfl⟩
    · rintro ⟨_, rfl⟩; rfl

theorem method_eq_ok {s : State} {k : Nat} {d : MethodDesc} :
    s.method k = .ok d ↔ k < s.cfg.methodCap ∧ lookup s.methods k = some d := by
  unfold State.method
  split_ifs with h
  · simp; omega
  · cases lookup s.methods k <;> simp; omega

theorem pushFrame_eq_ok {s t : State} {k : Nat} :
    s.pushFrame k = .ok t ↔
      s.cs.length ≠ s.cfg.callDepthCap ∧ t = s.setCs (s.cs ++ [s.frame]) := by
  unfold State.pushFrame
  split_ifs with h <;> simp [h, eq_comm]

theorem popFrame_eq_ok {s t : State} {p : Int} :
    s.popFrame p = .ok t ↔ ∃ f, s.cs.getLast? = some f ∧ t = (s.setFrame f).setCs s.cs.dropLast := by
  unfold State.popFrame
  cases s.cs.getLast? <;> simp [eq_comm]

/-! The step around an effect. -/

/-- What an instruction can do: complete and be counted, or fault in the state before it. -/
theorem perform_cases (s : State) (e : Int → State → Except Trap State) :
    (∃ u, e (int32 s.pc) (s.addPc 1) = .ok u ∧ s.perform e = u.count) ∨
    (∃ t, e (int32 s.pc) (s.addPc 1) = .error t ∧ s.perform e = s.raiseFault t) := by
  unfold State.perform
  cases h : e (int32 s.pc) (s.addPc 1) with
  | ok u => exact .inl ⟨u, rfl, rfl⟩
  | error t => exact .inr ⟨t, rfl, rfl⟩

theorem perform_ok {s u : State} {e : Int → State → Except Trap State}
    (h : e (int32 s.pc) (s.addPc 1) = .ok u) : s.perform e = u.count := by
  simp [State.perform, h]

theorem perform_error {s : State} {t : Trap} {e : Int → State → Except Trap State}
    (h : e (int32 s.pc) (s.addPc 1) = .error t) : s.perform e = s.raiseFault t := by
  simp [State.perform, h]

end Sys2Proof.Machine
end

