-- ==== Sys2Proof/Laws/Exec.lean ====
section
/-! SUPPORT. Registers in the terms statements use, and the inversion of `exec`: what an instruction can do,
said once, for the frames and the invariant. -/

namespace Sys2Proof.Machine

theorem regAddr_of_hasReg {s : State} {n : Nat} (h : s.hasReg n) : s.regAddr n = .ok (s.slotOf n) := by
  simp only [State.regAddr, slot_eq_ok]
  exact ⟨h.1, h.2, rfl⟩

theorem regAddr_of_not_hasReg {s : State} {n : Nat} (h : ¬ s.hasReg n) :
    s.regAddr n = .error ⟨.registerOutOfRange, int32 s.bp + n⟩ := by
  simp only [State.regAddr, slot_eq_error, and_true]
  simp only [State.hasReg] at h
  omega

theorem readReg_of_hasReg {s : State} {n : Nat} (h : s.hasReg n) : s.readReg n = .ok (s.reg n) := by
  simp [State.readReg, regAddr_of_hasReg h, State.reg]

theorem readReg_of_not_hasReg {s : State} {n : Nat} (h : ¬ s.hasReg n) :
    s.readReg n = .error ⟨.registerOutOfRange, int32 s.bp + n⟩ := by
  simp [State.readReg, regAddr_of_not_hasReg h]

theorem slotOf_of_regAddr {s : State} {a n : Nat} (h : s.regAddr a = .ok n) : n = s.slotOf a := by
  simp only [State.regAddr, slot_eq_ok] at h
  exact h.2.2

/-- A fault taken is the state `faultedAt` describes. -/
theorem raiseFault_eq (s : State) (t : Trap) : s.raiseFault t = s.faultedAt s.fetch t.kind t.info := rfl

/-- A relative step of `pc` after another adds up modulo 2^32 (R19). -/
theorem wrap32_add (p k : Int) : wrap32 (int32 (wrap32 p) + k) = wrap32 (p + k) := by
  apply BitVec.eq_of_toInt_eq
  simp [wrap32, int32, BitVec.toInt_ofInt]

/-- A word's int32 reading is in the int32 range (R8). -/
theorem int32_inInt32 (v : Word) : inInt32 (int32 v) := by
  have h1 := BitVec.toInt_lt (x := v)
  have h2 := BitVec.le_toInt (x := v)
  norm_num at h1 h2
  exact ⟨h2, by show v.toInt ≤ _; omega⟩

/-- The destination register of an instruction that does nothing else but write it. -/
def destReg : Instr → Option Nat
  | .add a _ _ | .sub a _ _ | .mul a _ _ | .div a _ _ | .mod a _ _ | .exp a _ _ => some a
  | .fadd a _ _ | .fsub a _ _ | .fmul a _ _ | .fdiv a _ _ | .fmod a _ _ | .fexp a _ _ => some a
  | .sqrt a _ | .fsqrt a _ | .mov a _ => some a
  | .addimm a _ | .subimm a _ | .mulimm a _ | .divimm a _ | .modimm a _ => some a
  | .sqrtimm a _ | .expimm a _ | .movimm16 a _ | .loadg a _ => some a
  | .pop _ | .loadret _ => none
  | .push _ => none
  | .setg _ _ | .cmp _ _ | .gt _ _ | .gte _ _ | .je _ _ | .jmp _ | .call _ | .ret _ => none
  | .print _ | .endRun => none

/-- What a completing instruction leaves, before it is counted: which fields it writes, which slot, and under
which guards. The values written are left open here; the statements about each instruction give them. -/
inductive Completes (s : State) : Instr → State → Prop
  | wrote (i a n w d) : destReg i = some a → s.regAddr a = .ok n →
      Completes s i (((s.addPc 1).setStack (s.stack.write n w)).setNanDraws d)
  | push (a n w) : s.stackSlot (int32 s.sp + 1) = .ok n →
      Completes s (.push a) (((s.addPc 1).setStack (s.stack.write n w)).setSp (wrap32 (int32 s.sp + 1)))
  | pop (a n w) : s.regAddr a = .ok n →
      Completes s (.pop a) (((s.addPc 1).setStack (s.stack.write n w)).setSp (wrap32 (int32 s.sp - 1)))
  | setg (a u w) : u < s.cfg.globalCap →
      Completes s (.setg a u) ((s.addPc 1).setGlobals (s.globals.write u w))
  | moved (i p) : i.mnemonic ∈ [.CMP, .GT, .GTE, .JE, .JMP] → Completes s i (s.setPc p)
  | call (k d) : s.cs.length ≠ s.cfg.callDepthCap →
      Completes s (.call k) (((s.addPc 1).setCs (s.cs ++ [(s.addPc 1).frame])).setFrame (calleeFrame s.sp d))
  | ret (a fr w) : s.cs.getLast? = some fr →
      Completes s (.ret a) ((((s.addPc 1).setFrame fr).setCs s.cs.dropLast).setRv w)
  | loadret (a n w) : s.regAddr a = .ok n → s.cfg.loadretPrints = false →
      Completes s (.loadret a) ((s.addPc 1).setStack (s.stack.write n w))
  | loadretPrint (a n w v) : s.regAddr a = .ok n → s.cfg.loadretPrints = true →
      Completes s (.loadret a) (((s.addPc 1).setStack (s.stack.write n w)).emit (int32 v))
  | print (a v) : Completes s (.print a) ((s.addPc 1).emit (int32 v))
  | endRun : Completes s .endRun ((s.addPc 1).setStatus .halted)

/-- What an instruction can do, said once: take a fault in the state before it, or complete in one of the
ways `Completes` lists and be counted. -/
theorem exec_cases {i : Instr} {s t : State} (h : exec i s = .next t) :
    (∃ tr, t = s.raiseFault tr) ∨ ∃ u, Completes s i u ∧ t = u.count := by
  have key : ∀ e, Host.Outcome.next (φ := Fault) (ρ := Refusal) (s.perform e) = .next t →
      (∀ u, e (int32 s.pc) (s.addPc 1) = .ok u → Completes s i u) →
      (∃ tr, t = s.raiseFault tr) ∨ ∃ u, Completes s i u ∧ t = u.count := by
    intro e he hd
    cases he
    rcases perform_cases s e with ⟨u, h1, h2⟩ | ⟨tr, -, h2⟩
    · exact .inr ⟨u, hd u h1, h2⟩
    · exact .inl ⟨tr, h2⟩
  cases i <;> refine key _ h (fun u hu => ?_) <;>
    simp only [bind_eq_ok, writeInt_eq_ok, writeResult_eq_ok, readInt_eq_ok, writeReg_eq_ok,
      globalIndex_eq_ok, method_eq_ok, pushFrame_eq_ok, popFrame_eq_ok,
      addPc_regAddr, Except.ok.injEq] at hu
  case add =>
    obtain ⟨_, _, _, _, _, n, hn, rfl⟩ := hu
    exact .wrote _ _ n _ s.nanDraws rfl hn
  case sub =>
    obtain ⟨_, _, _, _, _, n, hn, rfl⟩ := hu
    exact .wrote _ _ n _ s.nanDraws rfl hn
  case mul =>
    obtain ⟨_, _, _, _, _, n, hn, rfl⟩ := hu
    exact .wrote _ _ n _ s.nanDraws rfl hn
  case div =>
    obtain ⟨_, _, _, _, _, n, _, hn, rfl⟩ := hu
    exact .wrote _ _ n _ s.nanDraws rfl hn
  case mod =>
    obtain ⟨_, _, _, _, _, n, _, hn, rfl⟩ := hu
    exact .wrote _ _ n _ s.nanDraws rfl hn
  case exp =>
    obtain ⟨_, _, _, _, _, n, _, hn, rfl⟩ := hu
    exact .wrote _ _ n _ s.nanDraws rfl hn
  case sqrt =>
    obtain ⟨_, _, _, n, _, hn, rfl⟩ := hu
    exact .wrote _ _ n _ s.nanDraws rfl hn
  case addimm =>
    obtain ⟨_, _, _, n, hn, rfl⟩ := hu
    exact .wrote _ _ n _ s.nanDraws rfl hn
  case subimm =>
    obtain ⟨_, _, _, n, hn, rfl⟩ := hu
    exact .wrote _ _ n _ s.nanDraws rfl hn
  case mulimm =>
    obtain ⟨_, _, _, n, hn, rfl⟩ := hu
    exact .wrote _ _ n _ s.nanDraws rfl hn
  case divimm =>
    obtain ⟨_, _, _, n, _, hn, rfl⟩ := hu
    exact .wrote _ _ n _ s.nanDraws rfl hn
  case modimm =>
    obtain ⟨_, _, _, n, _, hn, rfl⟩ := hu
    exact .wrote _ _ n _ s.nanDraws rfl hn
  case sqrtimm =>
    obtain ⟨_, n, _, hn, rfl⟩ := hu
    exact .wrote _ _ n _ s.nanDraws rfl hn
  case expimm =>
    obtain ⟨_, _, _, n, _, hn, rfl⟩ := hu
    exact .wrote _ _ n _ s.nanDraws rfl hn
  case fadd =>
    obtain ⟨_, _, _, _, hu⟩ := hu
    obtain ⟨n, w, d, hn, rfl⟩ := writeF32_ok hu
    exact .wrote _ _ n w d rfl hn
  case fsub =>
    obtain ⟨_, _, _, _, hu⟩ := hu
    obtain ⟨n, w, d, hn, rfl⟩ := writeF32_ok hu
    exact .wrote _ _ n w d rfl hn
  case fmul =>
    obtain ⟨_, _, _, _, hu⟩ := hu
    obtain ⟨n, w, d, hn, rfl⟩ := writeF32_ok hu
    exact .wrote _ _ n w d rfl hn
  case fdiv =>
    obtain ⟨_, _, _, _, hu⟩ := hu
    obtain ⟨n, w, d, hn, rfl⟩ := writeF32_ok hu
    exact .wrote _ _ n w d rfl hn
  case fmod =>
    obtain ⟨_, _, _, _, hu⟩ := hu
    obtain ⟨n, w, d, hn, rfl⟩ := writeF32_ok hu
    exact .wrote _ _ n w d rfl hn
  case fexp =>
    obtain ⟨_, _, _, _, hu⟩ := hu
    obtain ⟨n, w, d, hn, rfl⟩ := writeF32_ok hu
    exact .wrote _ _ n w d rfl hn
  case fsqrt =>
    obtain ⟨_, _, hu⟩ := hu
    obtain ⟨n, w, d, hn, rfl⟩ := writeF32_ok hu
    exact .wrote _ _ n w d rfl hn
  case push =>
    obtain ⟨w, _, n, hn, rfl⟩ := hu
    exact .push _ n _ hn
  case pop =>
    obtain ⟨w, _, _, ⟨n, hn, rfl⟩, rfl⟩ := hu
    exact .pop _ n _ hn
  case mov =>
    obtain ⟨w, _, n, hn, rfl⟩ := hu
    exact .wrote _ _ n _ s.nanDraws rfl hn
  case loadg =>
    obtain ⟨_, _, n, hn, rfl⟩ := hu
    exact .wrote _ _ n _ s.nanDraws rfl hn
  case setg =>
    obtain ⟨w, _, _, ⟨hk, rfl⟩, rfl⟩ := hu
    exact .setg _ _ _ hk
  case movimm16 =>
    obtain ⟨n, hn, rfl⟩ := hu
    exact .wrote _ _ n _ s.nanDraws rfl hn
  case cmp =>
    obtain ⟨x, _, y, _, rfl⟩ := hu
    unfold State.skipIf
    split_ifs <;> exact .moved _ _ (by simp [Instr.mnemonic])
  case gt =>
    obtain ⟨x, _, y, _, rfl⟩ := hu
    unfold State.skipIf
    split_ifs <;> exact .moved _ _ (by simp [Instr.mnemonic])
  case gte =>
    obtain ⟨x, _, y, _, rfl⟩ := hu
    unfold State.skipIf
    split_ifs <;> exact .moved _ _ (by simp [Instr.mnemonic])
  case je =>
    obtain ⟨x, _, rfl⟩ := hu
    split_ifs <;> exact .moved _ _ (by simp [Instr.mnemonic])
  case jmp => subst hu; exact .moved _ _ (by simp [Instr.mnemonic])
  case call =>
    obtain ⟨d, _, _, ⟨h1, rfl⟩, rfl⟩ := hu
    exact .call _ d h1
  case ret =>
    obtain ⟨w, _, _, ⟨fr, h1, rfl⟩, rfl⟩ := hu
    exact .ret _ fr w h1
  case loadret =>
    obtain ⟨_, ⟨n, hn, rfl⟩, rfl⟩ := hu
    split_ifs with hp
    · exact .loadretPrint _ n _ _ hn hp
    · exact .loadret _ n _ hn (by simpa using hp)
  case print =>
    obtain ⟨_, ⟨w, _, rfl⟩, rfl⟩ := hu
    exact .print _ w
  case endRun => subst hu; exact .endRun

end Sys2Proof.Machine
end

