-- ==== Sys2Proof/Laws/Float.lean ====
section
/-! SUPPORT. What the integer steps of the float operations compute: the binary exponent of a ratio, the
nearest integer to a quotient, the integer square root. Proofs about rounding cite these. -/

namespace Sys2Proof.Machine

/-- A quotient rounded to nearest is within half of it, and a tie goes to the even integer (R80). -/
theorem divNearestEven_spec (n d : Nat) (hd : 0 < d) :
    2 * n ≤ (2 * divNearestEven n d + 1) * d ∧ 2 * divNearestEven n d * d ≤ 2 * n + d ∧
      (2 * n = (2 * divNearestEven n d + 1) * d ∨ 2 * divNearestEven n d * d = 2 * n + d →
        divNearestEven n d % 2 = 0) := by
  have h1 := Nat.div_add_mod n d
  have h2 := Nat.mod_lt n hd
  unfold divNearestEven
  generalize n / d = q at *
  generalize n % d = r at *
  subst h1
  split_ifs with h
  · refine ⟨?_, ?_, ?_⟩
    · nlinarith
    · rcases h with h | ⟨h, _⟩ <;> nlinarith
    · rintro (h3 | h3)
      · exfalso; nlinarith
      · rcases h with h | ⟨h, hq⟩
        · exfalso; nlinarith
        · omega
  · push Not at h
    refine ⟨?_, ?_, ?_⟩
    · nlinarith
    · nlinarith
    · rintro (h3 | h3)
      · have : 2 * r = d := by nlinarith
        have := h.2 this
        omega
      · exfalso; nlinarith

/-- The nearest integer to an exact quotient is the quotient. -/
theorem divNearestEven_mul (q d : Nat) (hd : 0 < d) : divNearestEven (q * d) d = q := by
  unfold divNearestEven
  rw [Nat.mul_mod_left, Nat.mul_div_cancel q hd, if_neg (by omega)]

/-- A power of 2 with an integer exponent, as a ratio of natural powers. -/
theorem two_zpow_eq (e : Int) : (2 : ℚ) ^ e = 2 ^ e.toNat / 2 ^ (-e).toNat := by
  rcases Int.le_total 0 e with h | h
  · rw [show (-e).toNat = 0 by omega, pow_zero, div_one, ← zpow_natCast, Int.toNat_of_nonneg h]
  · rw [show e.toNat = 0 by omega, pow_zero, one_div, ← zpow_natCast, Int.toNat_of_nonneg (by omega),
      ← zpow_neg, neg_neg]

theorem two_zpow_pos (e : Int) : (0 : ℚ) < 2 ^ e := zpow_pos (by norm_num) e

/-- The binary exponent of a positive ratio (R80's rounding positions its significand by it). -/
theorem floorLog2_spec (num den : Nat) (hn : 0 < num) (hd : 0 < den) :
    (2 : ℚ) ^ floorLog2 num den ≤ (num : ℚ) / den ∧
      (num : ℚ) / den < 2 ^ (floorLog2 num den + 1) := by
  have hn1 : (2 : ℚ) ^ (num.log2 : Int) ≤ num := by
    rw [zpow_natCast]; exact_mod_cast Nat.log2_self_le (by omega)
  have hn2 : (num : ℚ) < 2 ^ ((num.log2 : Int) + 1) := by
    rw [show (num.log2 : Int) + 1 = ((num.log2 + 1 : Nat) : Int) by push_cast; rfl, zpow_natCast]
    exact_mod_cast Nat.lt_log2_self
  have hd1 : (2 : ℚ) ^ (den.log2 : Int) ≤ den := by
    rw [zpow_natCast]; exact_mod_cast Nat.log2_self_le (by omega)
  have hd2 : (den : ℚ) < 2 ^ ((den.log2 : Int) + 1) := by
    rw [show (den.log2 : Int) + 1 = ((den.log2 + 1 : Nat) : Int) by push_cast; rfl, zpow_natCast]
    exact_mod_cast Nat.lt_log2_self
  have hden : (0 : ℚ) < den := by exact_mod_cast hd
  have htwo : (2 : ℚ) ≠ 0 := by norm_num
  set d : Int := (num.log2 : Int) - den.log2 with hdd
  have test : den * 2 ^ d.toNat ≤ num * 2 ^ (-d).toNat ↔ (2 : ℚ) ^ d ≤ num / den := by
    rw [two_zpow_eq, div_le_div_iff₀ (by positivity) hden, mul_comm (2 ^ d.toNat : ℚ)]
    exact_mod_cast Iff.rfl
  have upper : (num : ℚ) / den < 2 ^ (d + 1) := by
    rw [div_lt_iff₀ hden]
    calc (num : ℚ) < 2 ^ ((num.log2 : Int) + 1) := hn2
      _ = 2 ^ (d + 1) * 2 ^ (den.log2 : Int) := by rw [← zpow_add₀ htwo, hdd]; congr 1; ring
      _ ≤ 2 ^ (d + 1) * den := by
        apply mul_le_mul_of_nonneg_left hd1 (two_zpow_pos _).le
  have lower : (2 : ℚ) ^ (d - 1) ≤ (num : ℚ) / den := by
    rw [le_div_iff₀ hden]
    calc (2 : ℚ) ^ (d - 1) * den ≤ 2 ^ (d - 1) * 2 ^ ((den.log2 : Int) + 1) := by
          apply mul_le_mul_of_nonneg_left hd2.le (two_zpow_pos _).le
      _ = 2 ^ (num.log2 : Int) := by rw [← zpow_add₀ htwo, hdd]; congr 1; ring
      _ ≤ num := hn1
  unfold floorLog2
  rw [← hdd]
  show (2 : ℚ) ^ (if den * 2 ^ d.toNat ≤ num * 2 ^ (-d).toNat then d else d - 1) ≤ _ ∧
    _ < (2 : ℚ) ^ ((if den * 2 ^ d.toNat ≤ num * 2 ^ (-d).toNat then d else d - 1) + 1)
  split_ifs with h
  · exact ⟨test.mp h, upper⟩
  · refine ⟨lower, ?_⟩
    rw [sub_add_cancel]
    exact not_le.mp fun c => h (test.mpr c)

theorem isqrtFrom_spec (n k r : Nat) (h1 : r * r ≤ n) (h2 : n < (r + 2 ^ k) * (r + 2 ^ k)) :
    isqrtFrom n k r * isqrtFrom n k r ≤ n ∧ n < (isqrtFrom n k r + 1) * (isqrtFrom n k r + 1) := by
  induction k generalizing r with
  | zero => simpa [isqrtFrom] using ⟨h1, h2⟩
  | succ k ih =>
    simp only [isqrtFrom]
    split_ifs with h
    · exact ih _ h (by rwa [show r + 2 ^ k + 2 ^ k = r + 2 ^ (k + 1) by ring])
    · exact ih _ h1 (by omega)

/-- The integer square root (R86's exact step). -/
theorem isqrt_spec (n : Nat) : isqrt n * isqrt n ≤ n ∧ n < (isqrt n + 1) * (isqrt n + 1) := by
  refine isqrtFrom_spec n _ 0 (by omega) ?_
  rw [zero_add, ← pow_add]
  exact Nat.lt_of_lt_of_le (Nat.lt_log2_self (n := n)) (Nat.pow_le_pow_right (by omega) (by omega))

end Sys2Proof.Machine
end

