-- ==== Sys2Proof/Laws/PerInstr.lean ====
section
/-! SUPPORT. Statements made per instruction. `EncodeFits`: the word of a well-formed instruction holds the
table's opcode in its low byte, and that opcode names the instruction's mnemonic (R48, R49, R52). -/

namespace Sys2Proof.Laws.EncodeFits

def Statement (i : Instr) : Prop :=
  i.wellFormed = true →
    (encode i).toNat % 256 = i.mnemonic.opc ∧ opcodeOf i.mnemonic.opc = some i.mnemonic

theorem encodeR_low (m : Mnemonic) (h : m.opc < 256) (a b c : Nat) :
    (encodeR m a b c).toNat % 256 = m.opc := by
  simp only [encodeR, BitVec.toNat_ofNat]; omega

theorem encodeU_low (m : Mnemonic) (h : m.opc < 256) (a u : Nat) :
    (encodeU m a u).toNat % 256 = m.opc := by
  simp only [encodeU, BitVec.toNat_ofNat]; omega

theorem encodeS16_low (m : Mnemonic) (h : m.opc < 256) (a : Nat) (s : Int) :
    (encodeS16 m a s).toNat % 256 = m.opc := by
  simp only [encodeS16, BitVec.toNat_ofNat]; omega

theorem encodeS24_low (m : Mnemonic) (h : m.opc < 256) (s : Int) :
    (encodeS24 m s).toNat % 256 = m.opc := by
  simp only [encodeS24, BitVec.toNat_ofNat]; omega

theorem add (rA rB rC : Nat) : Statement (.add rA rB rC) :=
  fun _ => ⟨encodeR_low _ (by decide) _ _ _, rfl⟩

theorem sub (rA rB rC : Nat) : Statement (.sub rA rB rC) :=
  fun _ => ⟨encodeR_low _ (by decide) _ _ _, rfl⟩

theorem mul (rA rB rC : Nat) : Statement (.mul rA rB rC) :=
  fun _ => ⟨encodeR_low _ (by decide) _ _ _, rfl⟩

theorem div (rA rB rC : Nat) : Statement (.div rA rB rC) :=
  fun _ => ⟨encodeR_low _ (by decide) _ _ _, rfl⟩

theorem mod (rA rB rC : Nat) : Statement (.mod rA rB rC) :=
  fun _ => ⟨encodeR_low _ (by decide) _ _ _, rfl⟩

theorem sqrt (rA rB : Nat) : Statement (.sqrt rA rB) :=
  fun _ => ⟨encodeR_low _ (by decide) _ _ _, rfl⟩

theorem exp (rA rB rC : Nat) : Statement (.exp rA rB rC) :=
  fun _ => ⟨encodeR_low _ (by decide) _ _ _, rfl⟩

theorem addimm (rA u16 : Nat) : Statement (.addimm rA u16) :=
  fun _ => ⟨encodeU_low _ (by decide) _ _, rfl⟩

theorem subimm (rA u16 : Nat) : Statement (.subimm rA u16) :=
  fun _ => ⟨encodeU_low _ (by decide) _ _, rfl⟩

theorem mulimm (rA u16 : Nat) : Statement (.mulimm rA u16) :=
  fun _ => ⟨encodeU_low _ (by decide) _ _, rfl⟩

theorem divimm (rA u16 : Nat) : Statement (.divimm rA u16) :=
  fun _ => ⟨encodeU_low _ (by decide) _ _, rfl⟩

theorem modimm (rA u16 : Nat) : Statement (.modimm rA u16) :=
  fun _ => ⟨encodeU_low _ (by decide) _ _, rfl⟩

theorem sqrtimm (rA u16 : Nat) : Statement (.sqrtimm rA u16) :=
  fun _ => ⟨encodeU_low _ (by decide) _ _, rfl⟩

theorem expimm (rA u16 : Nat) : Statement (.expimm rA u16) :=
  fun _ => ⟨encodeU_low _ (by decide) _ _, rfl⟩

theorem fadd (rA rB rC : Nat) : Statement (.fadd rA rB rC) :=
  fun _ => ⟨encodeR_low _ (by decide) _ _ _, rfl⟩

theorem fsub (rA rB rC : Nat) : Statement (.fsub rA rB rC) :=
  fun _ => ⟨encodeR_low _ (by decide) _ _ _, rfl⟩

theorem fmul (rA rB rC : Nat) : Statement (.fmul rA rB rC) :=
  fun _ => ⟨encodeR_low _ (by decide) _ _ _, rfl⟩

theorem fdiv (rA rB rC : Nat) : Statement (.fdiv rA rB rC) :=
  fun _ => ⟨encodeR_low _ (by decide) _ _ _, rfl⟩

theorem fmod (rA rB rC : Nat) : Statement (.fmod rA rB rC) :=
  fun _ => ⟨encodeR_low _ (by decide) _ _ _, rfl⟩

theorem fsqrt (rA rB : Nat) : Statement (.fsqrt rA rB) :=
  fun _ => ⟨encodeR_low _ (by decide) _ _ _, rfl⟩

theorem fexp (rA rB rC : Nat) : Statement (.fexp rA rB rC) :=
  fun _ => ⟨encodeR_low _ (by decide) _ _ _, rfl⟩

theorem push (rA : Nat) : Statement (.push rA) :=
  fun _ => ⟨encodeR_low _ (by decide) _ _ _, rfl⟩

theorem pop (rA : Nat) : Statement (.pop rA) :=
  fun _ => ⟨encodeR_low _ (by decide) _ _ _, rfl⟩

theorem mov (rA rB : Nat) : Statement (.mov rA rB) :=
  fun _ => ⟨encodeR_low _ (by decide) _ _ _, rfl⟩

theorem loadg (rA u16 : Nat) : Statement (.loadg rA u16) :=
  fun _ => ⟨encodeU_low _ (by decide) _ _, rfl⟩

theorem setg (rA u16 : Nat) : Statement (.setg rA u16) :=
  fun _ => ⟨encodeU_low _ (by decide) _ _, rfl⟩

theorem movimm16 (rA u16 : Nat) : Statement (.movimm16 rA u16) :=
  fun _ => ⟨encodeU_low _ (by decide) _ _, rfl⟩

theorem cmp (rA rB : Nat) : Statement (.cmp rA rB) :=
  fun _ => ⟨encodeR_low _ (by decide) _ _ _, rfl⟩

theorem gt (rA rB : Nat) : Statement (.gt rA rB) :=
  fun _ => ⟨encodeR_low _ (by decide) _ _ _, rfl⟩

theorem gte (rA rB : Nat) : Statement (.gte rA rB) :=
  fun _ => ⟨encodeR_low _ (by decide) _ _ _, rfl⟩

theorem je (rA : Nat) (s16 : Int) : Statement (.je rA s16) :=
  fun _ => ⟨encodeS16_low _ (by decide) _ _, rfl⟩

theorem jmp (s24 : Int) : Statement (.jmp s24) :=
  fun _ => ⟨encodeS24_low _ (by decide) _, rfl⟩

theorem call (u16 : Nat) : Statement (.call u16) :=
  fun _ => ⟨encodeU_low _ (by decide) _ _, rfl⟩

theorem ret (rA : Nat) : Statement (.ret rA) :=
  fun _ => ⟨encodeR_low _ (by decide) _ _ _, rfl⟩

theorem loadret (rA : Nat) : Statement (.loadret rA) :=
  fun _ => ⟨encodeR_low _ (by decide) _ _ _, rfl⟩

theorem print (rA : Nat) : Statement (.print rA) :=
  fun _ => ⟨encodeR_low _ (by decide) _ _ _, rfl⟩

theorem endRun : Statement (.endRun) :=
  fun _ => ⟨encodeR_low _ (by decide) _ _ _, rfl⟩

end Sys2Proof.Laws.EncodeFits
end

