-- ==== Sys2Proof/Tests/Slice0.lean ====
section
/-! SUPPORT. The tests: the well-formedness smoke test, decoding of words written out from R42, R43 and R49,
one-step tests with the expected results of 95_test_vectors.md, and for every statement with hypotheses a
state and operands that meet them. -/

namespace Sys2Proof.Machine

/-! ### Well-formedness: one ill-formed term for each check -/

theorem test_wellFormed_refuses_register_256 :
    (Instr.add 256 0 0).wellFormed = false ∧ (Instr.fadd 0 256 0).wellFormed = false ∧
    (Instr.fexp 0 0 256).wellFormed = false ∧ (Instr.mov 0 256).wellFormed = false ∧
    (Instr.push 256).wellFormed = false ∧ (Instr.addimm 256 0).wellFormed = false ∧
    (Instr.setg 256 0).wellFormed = false ∧ (Instr.je 256 0).wellFormed = false := by decide

theorem test_wellFormed_refuses_immediate_65536 :
    (Instr.addimm 0 65536).wellFormed = false ∧ (Instr.movimm16 0 65536).wellFormed = false ∧
    (Instr.call 65536).wellFormed = false := by decide

theorem test_wellFormed_refuses_offsets_outside_excess_code :
    (Instr.je 0 32768).wellFormed = false ∧ (Instr.je 0 (-32769)).wellFormed = false ∧
    (Instr.jmp 8388608).wellFormed = false ∧ (Instr.jmp (-8388609)).wellFormed = false := by decide

theorem test_wellFormed_admits_the_ends :
    (Instr.add 255 255 255).wellFormed = true ∧ (Instr.call 65535).wellFormed = true ∧
    (Instr.je 255 (-32768)).wellFormed = true ∧ (Instr.je 0 32767).wellFormed = true ∧
    (Instr.jmp (-8388608)).wellFormed = true ∧ (Instr.jmp 8388607).wellFormed = true ∧
    Instr.endRun.wellFormed = true := by decide

/-! ### Decoding: words written out field by field, `rC rB rA op` or `u16 rA op` (R42, R49) -/

theorem test_decode_int :
    decode 0b00000010_00000001_00000011_00000000 = .instr (.add 3 1 2) ∧
    decode 0x02010301 = .instr (.sub 3 1 2) ∧ decode 0x02010302 = .instr (.mul 3 1 2) ∧
    decode 0x02010303 = .instr (.div 3 1 2) ∧ decode 0x02010304 = .instr (.mod 3 1 2) ∧
    decode 0xFF010305 = .instr (.sqrt 3 1) ∧ decode 0x02010306 = .instr (.exp 3 1 2) := by decide

theorem test_decode_int_imm :
    decode 0b10000000_00000001_00000011_00000111 = .instr (.addimm 3 32769) ∧
    decode 0x80010308 = .instr (.subimm 3 32769) ∧ decode 0x80010309 = .instr (.mulimm 3 32769) ∧
    decode 0x8001030A = .instr (.divimm 3 32769) ∧ decode 0x8001030B = .instr (.modimm 3 32769) ∧
    decode 0x8001030C = .instr (.sqrtimm 3 32769) ∧
    decode 0x8001030D = .instr (.expimm 3 32769) := by decide

theorem test_decode_float :
    decode 0b00000010_00000001_00000011_00001110 = .instr (.fadd 3 1 2) ∧
    decode 0x0201030F = .instr (.fsub 3 1 2) ∧ decode 0x02010310 = .instr (.fmul 3 1 2) ∧
    decode 0x02010311 = .instr (.fdiv 3 1 2) ∧ decode 0x02010312 = .instr (.fmod 3 1 2) ∧
    decode 0xFF010313 = .instr (.fsqrt 3 1) ∧ decode 0x02010314 = .instr (.fexp 3 1 2) := by decide

theorem test_decode_stack_move_global :
    decode 0b11111111_11111111_00000011_00010101 = .instr (.push 3) ∧
    decode 0x0000FF16 = .instr (.pop 255) ∧ decode 0xFF010317 = .instr (.mov 3 1) ∧
    decode 0x03FF0318 = .instr (.loadg 3 1023) ∧ decode 0xFFFF0019 = .instr (.setg 0 65535) ∧
    decode 0x0005001A = .instr (.movimm16 0 5) := by decide

theorem test_decode_compare_branch :
    decode 0b00000000_00000001_00000011_00011011 = .instr (.cmp 3 1) ∧
    decode 0xFF01031C = .instr (.gt 3 1) ∧ decode 0x0001031D = .instr (.gte 3 1) ∧
    decode 0b01111111_11111101_00000001_00011110 = .instr (.je 1 (-3)) ∧
    decode 0x0000001E = .instr (.je 0 (-32768)) ∧ decode 0xFFFF001E = .instr (.je 0 32767) ∧
    decode 0b10000000_00000000_00000010_00011111 = .instr (.jmp 2) ∧
    decode 0x0000001F = .instr (.jmp (-8388608)) ∧ decode 0xFFFFFF1F = .instr (.jmp 8388607) := by decide

theorem test_decode_call_return :
    decode 0b00000001_00000010_11111111_00100000 = .instr (.call 258) ∧
    decode 0x00000321 = .instr (.ret 3) ∧ decode 0x00000322 = .instr (.loadret 3) := by decide

theorem test_decode_output_halt :
    decode 0b00000000_00000000_00000011_00100011 = .instr (.print 3) ∧
    decode 0b10101011_11001101_11101111_00100100 = .instr .endRun := by decide

theorem test_decode_unassigned :
    decode 0x00000025 = .unknown 37 ∧ decode 0x12345678 = .unknown 120 ∧
    decode 0xFFFFFFFF = .unknown 255 ∧ decodeTableWord 8 0x25 = none := by decide

/-- The extractor's outputs of V-DEC-4 and V-DEC-8, and the variants R45 names. -/
theorem test_extract :
    extract 0x7FFD011E = ⟨0x1E, 1, 253, 127, 32765, -3, 8387841, -767⟩ ∧
    extract 0x12345678 = ⟨0x78, 86, 52, 18, 4660, -28108, 1193046, -7195562⟩ ∧
    decodeVariant 0x0000FF16 = .threeReg .POP 255 0 0 ∧
    decodeVariant 0x00010020 = .regImm16 .CALL 0 1 ∧
    decodeVariant 0x8000001F = .sImm24 .JMP 0 := by decide

theorem test_encode_example_words :
    encode (.add 2 0 1) = 0x01000200 ∧ encode (.je 1 (-3)) = 0x7FFD011E ∧
    encode (.jmp (-1)) = 0x7FFFFF1F ∧ encode (.call 1) = 0x00010020 ∧
    encode (.movimm16 0 65535) = 0xFFFF001A ∧ encode .endRun = 0x00000024 := by decide

/-- The table word of END, two bytes given, decodes and is placed where the next step runs it. -/
theorem test_withFetchWord_runs_end :
    decodeTableWord 8 0x24 = some .endRun ∧
    (runSteps 1 (State.reset.withFetchWord 8 0x24)).status = .halted := by decide

/-! ### One step -/

/-- A Running core whose program is one word, with the given execution stack. -/
def core1 (w : Word) (stack : Memory) : State :=
  { State.reset with status := .running, prog := [w], stack := stack }

/-- The register after one step of `core1`, if the step completed. -/
def reg1 (n : Nat) (w : Word) (stack : Memory) : Option Word :=
  let t := runSteps 1 (core1 w stack)
  if t.pc = 1 ∧ t.icount = 1 ∧ t.status = .running ∧ t.fault = none then some (t.reg n) else none

/-- The fault record after one step of a state, if it faulted and all else is as before (R111). -/
def faultOf (s : State) : Option (FaultKind × Option Int) :=
  match (runSteps 1 s).fault with
  | some r =>
    if runSteps 1 s = { s with status := .faulted, fault := some r } ∧ r.pc = s.pc ∧ r.word = s.fetch
    then some (r.kind, r.info) else none
  | none => none

theorem test_add_reads_before_write : reg1 1 0x01010100 [(1, 21)] = some 42 := by decide
theorem test_add_wraps : reg1 0 0x02010000 [(1, 0x7FFFFFFF), (2, 1)] = some 0x80000000 := by decide
theorem test_sub_wraps : reg1 0 0x02010001 [(1, 0x80000000), (2, 1)] = some 0x7FFFFFFF := by decide
theorem test_mul_low_bits : reg1 0 0x02010002 [(1, 65536), (2, 65536)] = some 0 := by decide
theorem test_mul_signed : reg1 0 0x02010002 [(1, -6), (2, 7)] = some (-42) := by decide
theorem test_div_toward_zero : reg1 0 0x02010003 [(1, -7), (2, 2)] = some (-3) := by decide
theorem test_div_overflow :
    faultOf (core1 0x02010003 [(1, 0x80000000), (2, -1)]) = some (.divideOverflow, some 0) := by decide
theorem test_mod_sign_of_dividend : reg1 0 0x02010004 [(1, -7), (2, 2)] = some (-1) := by decide
theorem test_mod_by_zero :
    faultOf (core1 0x02010004 [(1, 3)]) = some (.divideByZero, some 0) := by decide
theorem test_sqrt_rounds_its_operand : reg1 0 0x00010005 [(1, 16785407)] = some 4097 := by decide
theorem test_sqrt_of_negative :
    faultOf (core1 0x00010005 [(1, -1)]) = some (.conversionFault, some 0) := by decide
theorem test_exp_exact : reg1 0 0x02010006 [(1, -2), (2, 3)] = some (-8) := by decide
theorem test_exp_out_of_range :
    faultOf (core1 0x02010006 [(1, 2), (2, 31)]) = some (.conversionFault, some 0) := by decide
theorem test_addimm_wraps : reg1 0 0x00010007 [(0, 0x7FFFFFFF)] = some 0x80000000 := by decide
theorem test_subimm_unsigned : reg1 0 0xFFFF0008 [] = some (-65535) := by decide
theorem test_mulimm_wraps : reg1 0 0xFFFF0009 [(0, 65536)] = some (-65536) := by decide
theorem test_divimm : reg1 0 0x0002000A [(0, -7)] = some (-3) := by decide
theorem test_divimm_by_zero :
    faultOf (core1 0x0000000A [(0, 9)]) = some (.divideByZero, some 0) := by decide
theorem test_modimm : reg1 0 0x0004000B [(0, -9)] = some (-1) := by decide
theorem test_sqrtimm_ignores_old_value : reg1 0 0x0010000C [(0, 123)] = some 4 := by decide
theorem test_expimm : reg1 0 0x0003000D [(0, -2)] = some (-8) := by decide
theorem test_expimm_largest_exponent : reg1 0 0xFFFF000D [(0, -1)] = some (-1) := by decide

/-- V-INT-3: the overflow policy `fault` reports the exact sum. -/
theorem test_add_policy_fault :
    faultOf { core1 0x02010000 [(1, 0x7FFFFFFF), (2, 1)] with
      cfg := { Params.default with ovfPolicy := .fault } } =
      some (.integerOverflow, some 2147483648) := by decide

theorem test_fadd : reg1 0 0x0201000E [(1, 0x3FC00000), (2, 0x40000000)] = some 0x40600000 := by decide
theorem test_fadd_subnormals : reg1 0 0x0201000E [(1, 1), (2, 1)] = some 2 := by decide
theorem test_fsub : reg1 0 0x0201000F [(1, 0x3FC00000), (2, 0x40000000)] = some 0xBF000000 := by decide
theorem test_fmul_overflows :
    reg1 0 0x02010010 [(1, 0x7F000000), (2, 0x40800000)] = some 0x7F800000 := by decide
theorem test_fdiv_by_negative_zero :
    reg1 0 0x02010011 [(1, 0x3F800000), (2, 0x80000000)] = some 0xFF800000 := by decide
theorem test_fmod_sign_of_dividend :
    reg1 0 0x02010012 [(1, 0xC0B00000), (2, 0x40000000)] = some 0xBFC00000 := by decide
theorem test_fmod_by_infinity :
    reg1 0 0x02010012 [(1, 0x40B00000), (2, 0x7F800000)] = some 0x40B00000 := by decide
theorem test_fsqrt_rounds : reg1 0 0x00010013 [(1, 0x40000000)] = some 0x3FB504F3 := by decide
theorem test_fexp : reg1 0 0x02010014 [(1, 0x40000000), (2, 0x40400000)] = some 0x41000000 := by decide

/-- V-FLT-19: no fault; one NaN draw is taken. -/
theorem test_fsqrt_of_negative_draws_nan :
    (runSteps 1 (core1 0x00010013 [(1, 0xBF800000)])).nanDraws = 1 ∧
    (runSteps 1 (core1 0x00010013 [(1, 0xBF800000)])).icount = 1 := by decide

theorem test_push :
    let t := runSteps 1 { core1 0x00000015 [(0, 9)] with sp := 4 }
    t.stack = [(0, 9), (5, 9)] ∧ t.sp = 5 := by decide
theorem test_push_beyond_capacity :
    faultOf { core1 0x00000015 [] with sp := 1023 } = some (.stackOutOfRange, some 1024) := by decide
theorem test_pop_leaves_the_slot :
    let t := runSteps 1 { core1 0x00000116 [(5, 9)] with sp := 5 }
    t.stack = [(1, 9), (5, 9)] ∧ t.sp = 4 := by decide
theorem test_pop_from_slot_zero :
    let t := runSteps 1 (core1 0x00000116 [(0, 3)])
    t.stack = [(0, 3), (1, 3)] ∧ t.sp = -1 := by decide
theorem test_mov : reg1 0 0x00010017 [(1, -5)] = some (-5) := by decide
theorem test_loadg :
    (runSteps 1 { core1 0x00070018 [] with globals := [(7, 42)] }).reg 0 = 42 := by decide
theorem test_loadg_beyond_capacity :
    faultOf (core1 0x04000018 []) = some (.globalOutOfRange, some 1024) := by decide
theorem test_setg :
    (runSteps 1 (core1 0x00070019 [(0, 42)])).globals = [(7, 42)] := by decide
theorem test_movimm16_is_unsigned : reg1 0 0xFFFF001A [] = some 65535 := by decide
/-- V-SMG-18: a written zero leaves nothing listed; the register is counted from `bp`. -/
theorem test_movimm16_zero :
    (runSteps 1 { core1 0x0000021A [(12, 7)] with bp := 10 }).stack = [] := by decide

/-- `core1` with its word at address 10. -/
def core10 (w : Word) (stack : Memory) : State :=
  { core1 w stack with prog := List.replicate 10 0 ++ [w], pc := 10 }

theorem test_cmp_skips_on_equal :
    (runSteps 1 (core10 0x0001001B [(0, 3), (1, 3)])).pc = 12 ∧
    (runSteps 1 (core10 0x0001001B [(0, 3), (1, 4)])).pc = 11 := by decide
theorem test_cmp_compares_bits :
    (runSteps 1 (core10 0x0001001B [(1, 0x80000000)])).pc = 11 := by decide
theorem test_gt_is_signed :
    (runSteps 1 (core10 0x0001001C [(0, -1), (1, 1)])).pc = 11 ∧
    (runSteps 1 (core10 0x0001001C [(0, 0x7FFFFFFF), (1, 0x80000000)])).pc = 12 := by decide
theorem test_gte :
    (runSteps 1 (core10 0x0001001D [(0, 3), (1, 3)])).pc = 12 ∧
    (runSteps 1 (core10 0x0001001D [(0, 0x80000000), (1, 0x80000001)])).pc = 11 := by decide
theorem test_je_taken_and_untaken :
    (runSteps 1 (core10 0x7FFD001E [(0, 1)])).pc = 8 ∧
    (runSteps 1 (core10 0x7FFD001E [])).pc = 11 := by decide
theorem test_je_ends_of_the_offset :
    (runSteps 1 (core10 0xFFFF001E [(0, -1)])).pc = 32778 ∧
    (runSteps 1 (core10 0x0000001E [(0, 0x80000000)])).pc = -32757 := by decide
theorem test_jmp :
    (runSteps 1 (core10 0x8000001F [])).pc = 11 ∧
    (runSteps 1 (core10 0x7FFFFF1F [])).pc = 10 := by decide

theorem test_call :
    let t := runSteps 1 { core1 0x00010020 [] with sp := 4, methods := [(1, ⟨20, 2, 3⟩)] }
    (t.bp, t.sp, t.pc, t.cs) = (3, 5, 20, [⟨0, 4, 1⟩]) := by decide
theorem test_call_of_unregistered :
    faultOf (core1 0x00030020 []) = some (.unregisteredMethod, some 3) := by decide
theorem test_ret :
    let t := runSteps 1 { core1 0x00000221 [(5, 99)] with bp := 3, sp := 6, cs := [⟨0, 4, 8⟩] }
    (t.rv, t.bp, t.sp, t.pc, t.cs) = (99, 0, 4, 8, []) := by decide
theorem test_ret_without_frame :
    faultOf (core1 0x00000021 []) = some (.callStackUnderflow, some 0) := by decide
theorem test_loadret :
    (runSteps 1 { core1 0x00000022 [] with rv := 99 }).reg 0 = 99 ∧
    (runSteps 1 { core1 0x00000022 [] with rv := 99 }).out = [] := by decide
theorem test_loadret_prints :
    (runSteps 1 { core1 0x00000022 [] with
      rv := 99, cfg := { Params.default with loadretPrints := true } }).out = [99] := by decide
theorem test_print_is_signed :
    (runSteps 1 (core1 0x00000023 [(0, 0x80000000)])).out = [-2147483648] ∧
    (runSteps 1 (core1 0x00000023 [(0, 0x80000000)])).outputText =
      ['-', '2', '1', '4', '7', '4', '8', '3', '6', '4', '8', '\n'] := by decide
theorem test_end_inside_a_callee :
    let t := runSteps 1 { core1 0xABCDEF24 [] with cs := [⟨0, 1, 3⟩] }
    (t.status, t.pc, t.icount, t.cs) = (.halted, 1, 1, [⟨0, 1, 3⟩]) := by decide

theorem test_unknown_opcode :
    faultOf (core1 0x00000025 []) = some (.unknownOpcode, some 37) := by decide
theorem test_fetch_outside :
    faultOf { core1 0x00000024 [] with pc := 1 } = some (.fetchOutOfRange, some 1) := by decide
theorem test_registers_outside_the_stack :
    faultOf { core1 0x02010000 [(1023, 1)] with bp := 1022 } = some (.registerOutOfRange, some 1024) ∧
    faultOf { core1 0x02010000 [(0, 4), (1, 5)] with bp := -1 } =
      some (.registerOutOfRange, some (-1)) := by decide

/-- D17: the arithmetic fault is reported before the destination's range fault. -/
theorem test_arithmetic_fault_before_destination :
    faultOf { core1 0x02010003 [(0, 5)] with bp := -1 } = some (.divideByZero, some 0) ∧
    faultOf { core1 0x02010000 [(0, 0x7FFFFFFF), (1, 1)] with
      bp := -1, cfg := { Params.default with ovfPolicy := .fault } } =
      some (.integerOverflow, some 2147483648) := by decide

/-! ### The host interface (95_test_vectors.md Part 4) -/

theorem test_host_errors :
    hostSetMethod ⟨0, 0, 0⟩ 0 { State.reset with status := .uninit } = .error .notInitialized ∧
    hostSetMethod ⟨6, 1, 2⟩ 64 State.reset = .error .indexOutOfRange ∧
    hostSetStack 1024 5 State.reset = .error .indexOutOfRange ∧
    hostRun [] 0 State.reset = .error .noProgram ∧
    hostRun [0x24] 0 { State.reset with status := .faulted } = .error .notInitialized ∧
    hostShutdown { State.reset with status := .faulted } = .error .notInitialized ∧
    hostShutdown (State.reset.withFetchWord 32 0x24) = .error .notInitialized := by decide

/-- H-9: a second registration replaces the first. -/
theorem test_host_registers_again :
    (do hostSetMethod ⟨9, 1, 1⟩ 0 (← hostSetMethod ⟨0, 0, 0⟩ 0 State.reset)).map State.methods =
      .ok [(0, ⟨9, 1, 1⟩)] := by decide

/-- P5: the report of a division by zero (R112). -/
theorem test_fault_report :
    (hostRunBudget 9 [0x0001001A, 0x0000011A, 0x01000203, 0x00000024] 0 State.reset).map State.runResult =
      .ok (some (.faultReport (some 10) .divideByZero 2 (some 0x01000203) (some 2) 2)) := by decide

/-- H-8: the run prints the seeded slot and returns 2. -/
theorem test_host_run :
    (do hostRunBudget 9 [0x00000323, 0x00000024] 0 (← hostSetStack 3 5 State.reset)).map
      (fun t : State => (t.out, t.runResult)) = .ok ([5], some (.executed 2)) := by decide

/-! ### Witnesses: for each statement, states and operands that meet its hypotheses, clause by clause -/

/-- The base pointer at the last slot: register 0 is slot 1023, register 1 is no slot. -/
def atTop (w : Word) (stack : Memory) : State := { core1 w stack with bp := 1023 }

/-- The base pointer at -1: register 0 is no slot, register 1 is slot 0. -/
def belowZero (w : Word) (stack : Memory) : State := { core1 w stack with bp := -1 }

/-- The same state under the overflow policy `fault`. -/
def faulting (s : State) : State := { s with cfg := { s.cfg with ovfPolicy := .fault } }

theorem core1_memoryOk (w : Word) (stack : Memory) (h : stack.wf) (hb : Below stack 1024) :
    (core1 w stack).MemoryOk where
  stackCanonical := h
  stackInside := hb
  globalsCanonical := reset_memory_wf.2
  globalsInside := by simp [core1, State.reset, Below]
  methodsRising := by simp [core1, State.reset]
  methodsInside := by simp [core1, State.reset, Below]

theorem core1_ok (w : Word) (stack : Memory) (st : Status) (h : stack.wf) (hb : Below stack 1024)
    (hs : st ≠ .faulted) : { core1 w stack with status := st }.Ok where
  memory := ⟨h, hb, reset_memory_wf.2, (core1_memoryOk w stack h hb).globalsInside,
    (core1_memoryOk w stack h hb).methodsRising, (core1_memoryOk w stack h hb).methodsInside⟩
  depth := by simp [core1, State.reset]
  printed := by simp [core1, State.reset]
  faultedHasRecord := fun h => absurd h hs
  runningHasNone := by simp [core1, State.reset]

theorem witness_DecodeEncodeRoundTrip : (Instr.je 255 (-32768)).wellFormed = true := by decide

theorem witness_UnusedBitsAreIgnored :
    SameUsedFields 0xFFFF0015 0x00000015 ∧ SameUsedFields 0xABCDEF24 0x00000024 ∧
    SameUsedFields 0x0001FF20 0x00010020 ∧ SameUsedFields 0xFF010317 0x00010317 ∧
    SameUsedFields 0xFFFFFF25 0x00000025 :=
  ⟨⟨rfl, rfl⟩, ⟨rfl, trivial⟩, ⟨rfl, rfl⟩, ⟨rfl, rfl, rfl⟩, ⟨rfl, trivial⟩⟩

theorem witness_ExactlyTheAssignedOpcodesDecode :
    (0xABCDEF24 : Word).toNat % 256 ≤ 0x24 ∧ 0x24 < (0x00000025 : Word).toNat % 256 := by decide

theorem witness_SignedOffsetsAreExcessCoded :
    (0x0000001E : Word).toNat % 256 = 0x1E ∧ (0xFFFFFF1F : Word).toNat % 256 = 0x1F ∧
    (0xFFFF001A : Word).toNat % 256 = 0x1A := by decide

theorem witness_StepRunsDecodedInstruction :
    (core1 0x02010000 []).about (.add 0 1 2) ∧ (core1 0x00000024 []).about .endRun :=
  ⟨⟨rfl, _, rfl, rfl⟩, ⟨rfl, _, rfl, rfl⟩⟩

theorem witness_StepFaultsOnBadFetchOrOpcode :
    (core1 0 []).status = .running ∧
    int32 { core1 0 [] with pc := -1 }.pc < 0 ∧
    ({ core1 0 [] with pc := 1 }.prog.length : Int) ≤ int32 { core1 0 [] with pc := 1 }.pc ∧
    (core1 0x25 []).wordAtPc = some 0x25 ∧ 0x24 < (0x25 : Word).toNat % 256 := by decide

theorem witness_StoppedCoreRunsNothing :
    State.reset.status ≠ .running ∧ { State.reset with status := .faulted }.status = .faulted := by decide

theorem witness_FaultEntryIsPrecise :
    ∃ t, (core1 0x02010003 [(1, 5)]).status = .running ∧
      step (core1 0x02010003 [(1, 5)]) = .next t ∧ t.status = .faulted :=
  ⟨_, rfl, rfl, by decide⟩

theorem witness_CompletedStepCountsOne :
    ∃ t, (core1 0x02010000 []).status = .running ∧ step (core1 0x02010000 []) = .next t ∧
      t.status ≠ .faulted :=
  ⟨_, rfl, rfl, by decide⟩

theorem witness_OnlyEndHalts :
    (∃ t, (core1 0x24 []).status = .running ∧ step (core1 0x24 []) = .next t ∧ t.status = .halted) ∧
    (∃ t, (core1 0x1A []).status = .running ∧ step (core1 0x1A []) = .next t ∧ t.status ≠ .halted) :=
  ⟨⟨_, rfl, rfl, by decide⟩, ⟨_, rfl, rfl, by decide⟩⟩

theorem witness_StepKeepsStateOk :
    ∃ t, (core1 0x02010000 [(0, 5), (1023, 7)]).Ok ∧
      step (core1 0x02010000 [(0, 5), (1023, 7)]) = .next t :=
  ⟨_, core1_ok _ _ .running (by decide) (by decide) (by decide), rfl⟩

theorem witness_RegistersMoveOnlyByTheirInstructions :
    ∃ t, exec (.add 0 1 2) (core1 0 []) = .next t ∧
      (Instr.add 0 1 2).mnemonic ∉ [Mnemonic.CALL, .RET, .PUSH, .POP] :=
  ⟨_, rfl, by decide⟩

theorem witness_StackStoresOnlyToItsSlot :
    ∃ t, (core1 0 [(0, 9)]).MemoryOk ∧ exec (.push 0) (core1 0 [(0, 9)]) = .next t ∧
      storeSlot (.push 0) (core1 0 [(0, 9)]) ≠ some 0 ∧ storeSlot (.push 0) (core1 0 [(0, 9)]) = some 1 :=
  ⟨_, core1_memoryOk _ _ (by decide) (by decide), rfl, by decide, by decide⟩

theorem witness_GlobalsChangeOnlyBySetg :
    ∃ t, (core1 0 [(0, 9)]).MemoryOk ∧ exec (.setg 0 7) (core1 0 [(0, 9)]) = .next t ∧
      storeGlobal (.setg 0 7) ≠ some 8 ∧ storeGlobal (.mov 0 1) ≠ some 7 :=
  ⟨_, core1_memoryOk _ _ (by decide) (by decide), rfl, by decide, by decide⟩

theorem witness_OutputGrowsOnlyByPrinting :
    ∃ t, exec (.loadret 0) (core1 0 []) = .next t ∧ (Instr.loadret 0).mnemonic ≠ .PRINT ∧
      (core1 0 []).cfg.loadretPrints = false :=
  ⟨_, rfl, by decide, rfl⟩

theorem witness_ProgramMethodsParametersNeverWritten :
    ∃ t, exec (.call 0) (core1 0 []) = .next t := ⟨_, rfl⟩

theorem witness_ReadGivesMostRecentWrite : Memory.wf [(0, 5), (7, 1)] := by decide

theorem witness_AddSubMulOutcomes :
    let s := faulting (core1 0 [(1, 0x7FFFFFFF), (2, 1)])
    let d := faulting (belowZero 0 [(0, 0x7FFFFFFF), (1, 0x7FFFFFFF)])
    (s.hasReg 0 ∧ s.hasReg 1 ∧ s.hasReg 2) ∧
    overflowFault s (2147483647 + 1) = some ⟨.integerOverflow, 2147483648⟩ ∧
    overflowFault s (2147483647 - 1) = none ∧ overflowFault s (2147483647 * 1) = none ∧
    overflowFault (core1 0 []) (2147483647 + 1) = none ∧
    ((atTop 0 []).hasReg 0 ∧ ¬ (atTop 0 []).hasReg 1) ∧
    (¬ d.hasReg 0 ∧ d.hasReg 1 ∧ d.hasReg 2) ∧
    overflowFault d (2147483647 * 2147483647) ≠ none ∧
    overflowFault d (2147483647 - 2147483647) = none := by
  decide

theorem witness_DivModOutcomes :
    let d := belowZero 0 [(0, 5)]
    ((atTop 0 []).hasReg 0 ∧ ¬ (atTop 0 []).hasReg 1) ∧ (¬ d.hasReg 0 ∧ d.hasReg 1 ∧ d.hasReg 2) ∧
    divisionFault 0 (int32 (d.reg 1)) (int32 (d.reg 2)) = some ⟨.divideByZero, 0⟩ ∧
    divisionFault 0 (-2147483648) (-1) = some ⟨.divideOverflow, 0⟩ ∧
    divisionFault 0 (-2147483648) 1 = none ∧ divisionFault 0 2147483647 (-1) = none := by decide

theorem witness_SqrtOutcomes :
    isU16 65535 ∧ (atTop 0 []).hasReg 0 ∧ 0 ≤ int32 ((atTop 0 []).reg 0) ∧ ¬ (atTop 0 []).hasReg 1 ∧
    (belowZero 0 [(0, -1)]).hasReg 1 ∧ int32 ((belowZero 0 [(0, -1)]).reg 1) < 0 ∧
    ¬ (belowZero 0 [(0, -1)]).hasReg 0 := by decide

theorem witness_ExpOutcomes :
    let s := core1 0 [(1, 2), (2, 31), (3, 3)]
    (s.hasReg 0 ∧ s.hasReg 1 ∧ s.hasReg 2) ∧
    conversionFaultOf 0 (intPow s.cfg.intConvFmt (int32 (s.reg 1)) (int32 (s.reg 2))) =
      some ⟨.conversionFault, 0⟩ ∧
    conversionFaultOf 0 (intPow s.cfg.intConvFmt (int32 (s.reg 1)) (int32 (s.reg 3))) = none ∧
    conversionFaultOf 0 (intPow .binary64 (int32 (s.reg 3)) 19) = none ∧
    ¬ (atTop 0 []).hasReg 1 ∧ ¬ (belowZero 0 []).hasReg 0 := by decide

theorem witness_AddSubMulImmOutcomes :
    let s := faulting (atTop 0 [(1023, 0x7FFFFFFF)])
    s.hasReg 0 ∧ ¬ s.hasReg 1 ∧ ¬ (belowZero 0 []).hasReg 0 ∧
    overflowFault s (int32 (s.reg 0) + (1 : Nat)) = some ⟨.integerOverflow, 2147483648⟩ ∧
    overflowFault s (int32 (s.reg 0) - (65535 : Nat)) = none ∧
    overflowFault s (int32 (s.reg 0) * (2 : Nat)) = some ⟨.integerOverflow, 4294967294⟩ ∧
    overflowFault (core1 0 []) (int32 (s.reg 0) * (2 : Nat)) = none := by decide

theorem witness_DivModImmOutcomes :
    (atTop 0 []).hasReg 0 ∧ ¬ (atTop 0 []).hasReg 1 ∧ ¬ (belowZero 0 []).hasReg 0 ∧
    (if 0 = 0 then some (⟨.divideByZero, 0⟩ : Trap) else none) = some ⟨.divideByZero, 0⟩ ∧
    (if 1 = 0 then some (⟨.divideByZero, 0⟩ : Trap) else none) = none := by decide

theorem witness_IntegerSqrtIsFloorRoot : (16777216 : Nat) ≤ 16777216 := by decide

theorem witness_ExpIsExactOnSmallIntegers :
    let s := core1 0 [(1, -4096), (2, 2), (3, 4096)]
    (s.hasReg 0 ∧ s.hasReg 1 ∧ s.hasReg 2 ∧ s.hasReg 3) ∧
    ((int32 (s.reg 1)).natAbs ≤ 16777216 ∧ 0 ≤ int32 (s.reg 2) ∧ int32 (s.reg 2) ≤ 16777216 ∧
      int32 (s.reg 1) ≠ 0 ∧ (int32 (s.reg 1) ^ (int32 (s.reg 2)).toNat).natAbs ≤ 16777216) ∧
    ((int32 (s.reg 3)).natAbs ≤ 16777216 ∧ isU16 2 ∧ int32 (s.reg 3) ≠ 0 ∧
      (int32 (s.reg 3) ^ 2).natAbs ≤ 16777216) := by decide

theorem witness_IntegersConvertExactly :
    inInt32 (-2147483648) ∧ inInt32 2147483647 ∧ (-16777216 : Int).natAbs ≤ 16777216 := by decide

theorem witness_TruncationTowardZero :
    inInt32 (truncRat (FNum.fin true 1 31).value) ∧ ¬ inInt32 (truncRat (FNum.fin false 1 31).value) := by
  norm_num [FNum.value, truncRat, inInt32]

theorem witness_RoundingIsNearestEven :
    binary32.overflowAt ≤ ((33554431 * 2 ^ 103 : Nat) : ℚ) / (1 : Nat) ∧
    ((33554431 * 2 ^ 103 - 1 : Nat) : ℚ) / (1 : Nat) < binary32.overflowAt := by
  norm_num [FloatFormat.overflowAt, FloatFormat.eMax, FloatFormat.bias, binary32]

theorem witness_FloatArithmeticRoundsExactResults :
    (FNum.fin false 1 0).value + (FNum.fin false 1 0).value ≠ 0 ∧
    (FNum.fin true 1 0).value + (FNum.fin false 1 0).value = 0 ∧
    (FNum.fin true 1 0).value - (FNum.fin false 1 0).value ≠ 0 ∧
    (FNum.fin false 1 0).value - (FNum.fin false 1 0).value = 0 ∧ (1 : Nat) ≠ 0 := by
  norm_num [FNum.value]

theorem witness_FmodIsTheExactRemainder :
    asF32 0xC0B00000 = some (.fin true 11534336 (-21)) ∧
    asF32 0x40000000 = some (.fin false 8388608 (-22)) ∧ 8388608 ≠ 0 := by decide

theorem witness_FsqrtIsTheNearestRoot :
    (asF32 0x40000000 = some (.fin false 8388608 (-22)) ∧ 8388608 ≠ 0) ∧
    (asF32 1 = some (.fin false 1 (-149)) ∧ 1 ≠ 0) := by decide

theorem witness_FloatSpecialCases : true ≠ false ∧ 1 ≠ 0 := by decide

theorem witness_FloatBitsAndNanPatterns :
    asF32 0x3FC00000 = some (.fin false 12582912 (-23)) ∧ asF32 0x7F800001 = none := by decide

theorem witness_FloatBinaryOutcomes :
    (core1 0 []).hasReg 0 ∧ (core1 0 []).hasReg 1 ∧ (core1 0 []).hasReg 2 ∧
    ((atTop 0 []).hasReg 0 ∧ ¬ (atTop 0 []).hasReg 1) ∧
    (¬ (belowZero 0 []).hasReg 0 ∧ (belowZero 0 []).hasReg 1 ∧ (belowZero 0 []).hasReg 2) ∧
    fadd binary32 (asF32 0x7F800000) (asF32 0xFF800000) = none ∧
    (fadd binary32 (asF32 0x3FC00000) (asF32 0x40000000)).isSome := by decide

theorem witness_FsqrtOutcome :
    (atTop 0 []).hasReg 0 ∧ ¬ (atTop 0 []).hasReg 1 ∧ ¬ (belowZero 0 []).hasReg 0 ∧
    (belowZero 0 []).hasReg 1 ∧ fsqrt binary32 (asF32 0xBF800000) = none ∧
    (fsqrt binary32 (asF32 0x40000000)).isSome := by decide

theorem witness_PushOutcomes :
    let s := { core1 0 [] with sp := 1022 }
    let u := { core1 0 [] with sp := 1023 }
    let v := { core1 0 [] with sp := -1 }
    let w := { core1 0 [] with sp := -2 }
    (s.hasReg 0 ∧ s.hasSlot (int32 s.sp + 1)) ∧ (u.hasReg 0 ∧ ¬ u.hasSlot (int32 u.sp + 1)) ∧
    (v.hasReg 0 ∧ v.hasSlot (int32 v.sp + 1)) ∧ (w.hasReg 0 ∧ ¬ w.hasSlot (int32 w.sp + 1)) ∧
    ¬ (atTop 0 []).hasReg 1 := by decide

theorem witness_PopOutcomes :
    let s := { atTop 0 [] with sp := 1023 }
    let u := { core1 0 [] with sp := 1024 }
    let v := { core1 0 [] with sp := -1 }
    (s.hasSlot (int32 s.sp) ∧ s.hasReg 0) ∧ (s.hasSlot (int32 s.sp) ∧ ¬ s.hasReg 1) ∧
    (core1 0 []).hasSlot (int32 (core1 0 []).sp) ∧
    ¬ u.hasSlot (int32 u.sp) ∧ ¬ v.hasSlot (int32 v.sp) := by decide

theorem witness_PushThenPopRoundTrip :
    ∃ t u, (core1 0 [(3, 9)]).MemoryOk ∧
      exec (.push 3) (core1 0 [(3, 9)]) = .next t ∧ t.status ≠ .faulted ∧
      exec (.pop 3) t = .next u ∧ u.status ≠ .faulted :=
  ⟨_, _, core1_memoryOk _ _ (by decide) (by decide), rfl, by decide, rfl, by decide⟩

theorem witness_MoveOutcomes :
    isU16 65535 ∧ ((core1 0 []).hasReg 0 ∧ (core1 0 []).hasReg 1) ∧
    ((belowZero 0 []).hasReg 1 ∧ ¬ (belowZero 0 []).hasReg 0) ∧
    ((atTop 0 []).hasReg 0 ∧ ¬ (atTop 0 []).hasReg 1) := by decide

theorem witness_GlobalAccessOutcomes :
    (core1 0 []).cfg.globalCap ≤ 1024 ∧ 1023 < (core1 0 []).cfg.globalCap ∧
    (atTop 0 []).hasReg 0 ∧ ¬ (atTop 0 []).hasReg 1 ∧ ¬ (belowZero 0 []).hasReg 0 := by decide

theorem witness_CompareOutcomes :
    (core1 0 []).hasReg 0 ∧ (core1 0 []).hasReg 1 ∧ ((atTop 0 []).hasReg 0 ∧ ¬ (atTop 0 []).hasReg 1) ∧
    ¬ (belowZero 0 []).hasReg 0 := by decide

theorem witness_BranchOutcomes :
    (atTop 0 [(1023, 1)]).hasReg 0 ∧ (atTop 0 [(1023, 1)]).reg 0 ≠ 0 ∧ ¬ (atTop 0 []).hasReg 1 := by
  decide

theorem witness_CallOutcomes :
    let m := { core1 0 [] with
      methods := [(63, ⟨20, 2, 3⟩)], cfg := { Params.default with callDepthCap := 1 } }
    let full := { m with cs := [⟨0, 4, 8⟩] }
    m.cfg.methodCap ≤ 64 ∧ (62 < m.cfg.methodCap ∧ lookup m.methods 62 = none) ∧
    (63 < full.cfg.methodCap ∧ lookup full.methods 63 = some ⟨20, 2, 3⟩ ∧
      full.cs.length = full.cfg.callDepthCap) ∧
    (63 < m.cfg.methodCap ∧ lookup m.methods 63 = some ⟨20, 2, 3⟩ ∧
      m.cs.length ≠ m.cfg.callDepthCap) := by decide

theorem witness_RetOutcomes :
    let s := { core1 0 [] with cs := [⟨0, 4, 8⟩] }
    ((core1 0 []).hasReg 0 ∧ (core1 0 []).cs = []) ∧ (s.hasReg 0 ∧ s.cs = [] ++ [⟨0, 4, 8⟩]) ∧
    ¬ (atTop 0 []).hasReg 1 := by decide

theorem witness_LoadretOutcomes :
    ¬ (belowZero 0 []).hasReg 0 ∧ ((atTop 0 []).hasReg 0 ∧ (atTop 0 []).cfg.loadretPrints = false) ∧
    (let s := { core1 0 [] with cfg := { Params.default with loadretPrints := true } }
     s.hasReg 0 ∧ s.cfg.loadretPrints = true) := by decide

/-- A method of two instructions, `MOVIMM16 r0, 9` and `RET r0`, called with one local. -/
def caller : State :=
  { core1 0 [] with prog := [0x00000020, 0x00000024, 0x0009001A, 0x00000021], methods := [(0, ⟨2, 0, 1⟩)] }

theorem witness_CallRetRoundTripOverRuns :
    ∃ t v, exec (.call 0) caller = .next t ∧ t.status ≠ .faulted ∧
      (∀ j, j ≤ 1 → t.cs.length ≤ (runSteps j t).cs.length) ∧
      (runSteps 1 t).cs.length = t.cs.length ∧
      exec (.ret 0) (runSteps 1 t) = .next v ∧ v.status ≠ .faulted ∧ v.rv = 9 :=
  ⟨_, _, rfl, by decide, by decide, by decide, rfl, by decide, by decide⟩

theorem witness_PrintOutcomes : (atTop 0 []).hasReg 0 ∧ ¬ (atTop 0 []).hasReg 1 := by decide

theorem witness_InitGivesResetValues : 1023 < 1024 := by decide

theorem witness_SetMethodOutcomes :
    { State.reset with status := .uninit }.status = .uninit ∧ State.reset.status = .idle ∧
    { State.reset with status := .halted }.status = .halted ∧
    ¬ ((0 : Int) ≤ -1 ∧ (-1 : Int) < State.reset.cfg.methodCap) ∧
    ¬ ((0 : Int) ≤ 64 ∧ (64 : Int) < State.reset.cfg.methodCap) ∧
    (63 : Int) < State.reset.cfg.methodCap := by decide

theorem witness_SetStackOutcomes :
    State.reset.MemoryOk ∧ { State.reset with status := .uninit }.status = .uninit ∧
    State.reset.status = .idle ∧ ¬ ((0 : Int) ≤ -1 ∧ (-1 : Int) < State.reset.cfg.stackCap) ∧
    ¬ ((0 : Int) ≤ 1024 ∧ (1024 : Int) < State.reset.cfg.stackCap) ∧
    (1023 : Int) < State.reset.cfg.stackCap :=
  ⟨⟨by decide, by decide, by decide, by decide, by decide, by decide⟩, by decide⟩

theorem witness_RunStartOutcomes :
    { State.reset with status := .uninit }.status = .uninit ∧
    { State.reset with status := .faulted }.status = .faulted ∧ State.reset.status = .idle ∧
    ([] : List Word) = [] ∧ [(0x24 : Word)] ≠ [] := by decide

theorem witness_AbortAndShutdownOutcomes :
    (core1 0 []).status = .running ∧ State.reset.status = .idle ∧
    { State.reset with status := .halted }.status = .halted := by decide

theorem witness_OutputTextForm : (atTop 0 []).hasReg 0 := by decide

theorem witness_RunResultOutcomes :
    { State.reset with status := .halted }.status = .halted ∧
    (∃ t, (core1 0x25 []).status = .running ∧ step (core1 0x25 []) = .next t ∧ t.status = .faulted) ∧
    (∃ t, hostRunBudget 3 [0x7FFFFF1F] 0 State.reset = .ok t) :=
  ⟨rfl, ⟨_, rfl, rfl, by decide⟩, ⟨_, rfl⟩⟩

theorem witness_AbortedRunReturnsItsBudget :
    ∃ t, hostRunBudget 3 [0x7FFFFF1F] 0 State.reset = .ok t ∧ t.runResult = some (.aborted 3) :=
  ⟨_, rfl, by decide⟩

theorem witness_HostOperationsKeepStateOk :
    ∃ t u v w, { core1 0 [] with status := .idle }.Ok ∧
      hostSetMethod ⟨0, 0, 0⟩ 63 { core1 0 [] with status := .idle } = .ok t ∧
      hostSetStack 1023 5 { core1 0 [] with status := .idle } = .ok u ∧
      hostRun [0x24] 0 { core1 0 [] with status := .idle } = .ok v ∧
      hostShutdown { core1 0 [] with status := .idle } = .ok w :=
  ⟨_, _, _, _, core1_ok _ _ .idle (by decide) (by decide) (by decide), rfl, rfl, rfl, rfl⟩

end Sys2Proof.Machine
end

