-- ==== Sys2Proof/Proofs/FloatBits.lean ====
section
/-! PROOF. Reading a bit pattern as a number and writing its bits are inverse, and the patterns of
`NAN_BITS` are the patterns that read as a NaN (R9, R80). The fields of a pattern are named once; `unpack`
and `pack` are said in them, for every format. -/

namespace Sys2Proof.Machine

/-- The exponent field of a pattern (R9: bits 30:23 in binary32). -/
def FloatFormat.expField (f : FloatFormat) (b : Nat) : Nat := b / 2 ^ f.fracBits % 2 ^ f.expBits

/-- The fraction field of a pattern (R9: bits 22:0 in binary32). -/
def FloatFormat.fracField (f : FloatFormat) (b : Nat) : Nat := b % 2 ^ f.fracBits

/-- What the sign bit of a pattern adds to it (R9: bit 31 in binary32). -/
def FloatFormat.signWeight (f : FloatFormat) (neg : Bool) : Nat :=
  if neg then 2 ^ (f.fracBits + f.expBits) else 0

theorem FloatFormat.fracField_lt (f : FloatFormat) (b : Nat) : f.fracField b < 2 ^ f.fracBits :=
  Nat.mod_lt b (Nat.two_pow_pos _)

/-- `unpack` in the fields of the pattern. -/
theorem unpack_eq (f : FloatFormat) (b : Nat) :
    unpack f b =
      if f.expField b = 2 ^ f.expBits - 1 then
        if f.fracField b = 0 then some (.inf (signBit f b)) else none
      else if f.expField b = 0 then some (.fin (signBit f b) (f.fracField b) f.eMin)
      else some (.fin (signBit f b) (2 ^ f.fracBits + f.fracField b) (f.eMin + f.expField b - 1)) := rfl

/-- A pattern reads as a NaN exactly if its exponent field is all ones and its fraction is not zero. -/
theorem unpack_eq_none_iff (f : FloatFormat) (b : Nat) :
    unpack f b = none ↔ f.expField b = 2 ^ f.expBits - 1 ∧ f.fracField b ≠ 0 := by
  rw [unpack_eq]
  split_ifs <;> simp_all

/-- A pattern of the format is the sum of its three fields, each at its place. -/
theorem signWeight_add_fields (f : FloatFormat) {b : Nat} (hb : b < 2 ^ (f.fracBits + f.expBits + 1)) :
    f.signWeight (signBit f b) + (f.expField b * 2 ^ f.fracBits + f.fracField b) = b := by
  have sign : f.signWeight (signBit f b) =
      2 ^ (f.fracBits + f.expBits) * (b / 2 ^ (f.fracBits + f.expBits)) := by
    have htop : b / 2 ^ (f.fracBits + f.expBits) < 2 := Nat.div_lt_of_lt_mul hb
    unfold FloatFormat.signWeight signBit
    generalize b / 2 ^ (f.fracBits + f.expBits) = q at htop ⊢
    interval_cases q <;> simp
  have low : f.expField b * 2 ^ f.fracBits + f.fracField b = b % 2 ^ (f.fracBits + f.expBits) := by
    rw [pow_add, Nat.mod_mul, Nat.mul_comm, Nat.add_comm]
    rfl
  rw [sign, low, Nat.div_add_mod]

theorem pack_inf (f : FloatFormat) (neg : Bool) :
    pack f (.inf neg) = f.signWeight neg + (2 ^ f.expBits - 1) * 2 ^ f.fracBits := rfl

/-- A zero or a subnormal has the exponent field 0. -/
theorem pack_subnormal (f : FloatFormat) (neg : Bool) {m : Nat} (e : Int) (hm : m < 2 ^ f.fracBits) :
    pack f (.fin neg m e) = f.signWeight neg + m := by
  simp only [pack, FloatFormat.signWeight, if_pos hm]

/-- A normal number's exponent field counts from 1 at the least exponent; its leading bit is not written. -/
theorem pack_normal (f : FloatFormat) (neg : Bool) (ex frac : Nat) :
    pack f (.fin neg (2 ^ f.fracBits + frac) (f.eMin + ex - 1)) =
      f.signWeight neg + (ex * 2 ^ f.fracBits + frac) := by
  have hexp : (f.eMin + (ex : Int) - 1 - f.eMin + 1).toNat = ex := by omega
  simp only [pack, FloatFormat.signWeight, hexp, Nat.add_sub_cancel_left,
    if_neg (Nat.not_lt.mpr (Nat.le_add_right (2 ^ f.fracBits) frac))]

/-- Reading a pattern of the format as a number and packing the number gives the pattern back. -/
theorem pack_of_unpack_eq_some (f : FloatFormat) {b : Nat} {x : FNum}
    (hb : b < 2 ^ (f.fracBits + f.expBits + 1)) (hx : unpack f b = some x) : pack f x = b := by
  have fields := signWeight_add_fields f hb
  rw [unpack_eq] at hx
  split_ifs at hx with hmax hfrac hzero
  · -- infinity
    cases hx
    rw [pack_inf, ← hmax]
    simpa [hfrac] using fields
  · -- zero or subnormal
    cases hx
    rw [pack_subnormal f _ _ (f.fracField_lt b)]
    simpa [hzero] using fields
  · -- normal
    cases hx
    rw [pack_normal, fields]

theorem expField_binary32 (b : Nat) : binary32.expField b = b / 8388608 % 256 := rfl

theorem fracField_binary32 (b : Nat) : binary32.fracField b = b % 8388608 := rfl

theorem signWeight_binary32 (neg : Bool) : binary32.signWeight neg = if neg then 2147483648 else 0 := rfl

/-- A word reads as a NaN exactly if its exponent field is 255 and its fraction is not zero (R9). -/
theorem asF32_eq_none_iff (w : Word) :
    asF32 w = none ↔ w.toNat / 8388608 % 256 = 255 ∧ w.toNat % 8388608 ≠ 0 :=
  unpack_eq_none_iff binary32 w.toNat

/-- The bits of the number a word reads as are the word (R9). -/
theorem bitsF32_of_asF32_eq_some {w : Word} {x : FNum} (hx : asF32 w = some x) : bitsF32 x = w := by
  have hpack : pack binary32 x = w.toNat := pack_of_unpack_eq_some binary32 w.isLt hx
  rw [bitsF32, hpack, BitVec.ofNat_toNat, BitVec.setWidth_eq]

/-- A `NAN_BITS` pattern as a number: its sign, the exponent field 255 and its non-zero fraction. -/
theorem nanPattern_word_toNat (p : NanPattern) :
    p.word.toNat = binary32.signWeight p.neg + (255 * 8388608 + (p.fracPred.val + 1)) := by
  have hfrac := p.fracPred.isLt
  rw [NanPattern.word, BitVec.toNat_ofNat, signWeight_binary32]
  split <;> omega

/-- Every `NAN_BITS` pattern reads as a NaN (R80). -/
theorem asF32_nanPattern_word (p : NanPattern) : asF32 p.word = none := by
  have hfrac := p.fracPred.isLt
  rw [asF32_eq_none_iff, nanPattern_word_toNat, signWeight_binary32]
  split <;> omega

/-- A word that reads as a NaN is the `NAN_BITS` pattern of its own sign and fraction (R80). -/
theorem exists_nanPattern_of_asF32_eq_none {w : Word} (hw : asF32 w = none) :
    ∃ p : NanPattern, p.word = w := by
  obtain ⟨hexp, hfrac⟩ := (asF32_eq_none_iff w).mp hw
  refine ⟨⟨signBit binary32 w.toNat, ⟨w.toNat % 8388608 - 1, by omega⟩⟩, BitVec.eq_of_toNat_eq ?_⟩
  have fields := signWeight_add_fields binary32 w.isLt
  rw [expField_binary32, fracField_binary32, hexp] at fields
  rw [nanPattern_word_toNat, Nat.sub_add_cancel (Nat.pos_of_ne_zero hfrac)]
  exact fields

/-- Settles O38: the round trip from the fields of a pattern, and both directions of the NaN patterns. -/
theorem floatBitsAndNanPatterns : Obligations.FloatBitsAndNanPatterns :=
  ⟨fun _ _ hx => bitsF32_of_asF32_eq_some hx, fun _ =>
    ⟨exists_nanPattern_of_asF32_eq_none, fun ⟨p, hp⟩ => hp ▸ asF32_nanPattern_word p⟩⟩

end Sys2Proof.Machine
end

section
/-! PROOF. What a step keeps of the state (10_state.md R12, R16, R20, R22, R25, R26, R28, R30). One lemma
per group of fields says what a completing instruction leaves in it; a fault writes only the status and the
record. The frames and the invariant `State.Ok` are put together from these. After them, the decimal text
of the output (R25, R106). -/

namespace Sys2Proof.Machine

section Facts

variable {s t u : State} {i : Instr}

/-! ### A read after a write -/

/-- A write leaves what every other index reads as (R31). -/
theorem Memory.read_write_of_ne {m : Memory} (hm : m.wf) {n a : Nat} (hne : a ≠ n) (w : Word) :
    (m.write n w).read a = m.read a := by
  unfold Memory.write Memory.read
  split_ifs
  · rw [lookup_removeAt m n a hm.1, if_neg hne]
  · rw [lookup_insertAt, if_neg hne]

/-! ### What a completing instruction leaves, field by field -/

theorem storeSlot_of_destReg {a : Nat} (h : destReg i = some a) : storeSlot i s = some (s.slotOf a) := by
  cases i <;> simp_all [destReg, storeSlot]

theorem lt_stackCap_of_slot {k : FaultKind} {a : Int} {n : Nat} (h : s.slot k a = .ok n) :
    n < s.cfg.stackCap := by
  obtain ⟨hnonneg, hlt, rfl⟩ := slot_eq_ok.mp h
  omega

/-- No completing instruction writes the program, the method table or the parameters (R23, R26, R39). -/
theorem Completes.prog_methods_cfg (h : Completes s i u) :
    u.prog = s.prog ∧ u.methods = s.methods ∧ u.cfg = s.cfg := by
  cases h <;> exact ⟨rfl, rfl, rfl⟩

/-- A completing instruction leaves the stack, or writes the one slot `storeSlot` names (R16, R88). -/
theorem Completes.stack_cases (h : Completes s i u) :
    u.stack = s.stack ∨
      ∃ n w, storeSlot i s = some n ∧ n < s.cfg.stackCap ∧ u.stack = s.stack.write n w := by
  cases h with
  | wrote _ a n w d hdest hn =>
    exact .inr ⟨n, w, slotOf_of_regAddr hn ▸ storeSlot_of_destReg hdest, lt_stackCap_of_slot hn, rfl⟩
  | push a n w hn =>
    exact .inr ⟨n, w, congrArg some (slot_eq_ok.mp hn).2.2.symm, lt_stackCap_of_slot hn, rfl⟩
  | pop a n w hn | loadret a n w hn | loadretPrint a n w _ hn =>
    exact .inr ⟨n, w, congrArg some (slotOf_of_regAddr hn).symm, lt_stackCap_of_slot hn, rfl⟩
  | setg | moved | call | ret | print | endRun => exact .inl rfl

/-- A completing instruction leaves the global store, or writes the one global `storeGlobal` names (R92). -/
theorem Completes.globals_cases (h : Completes s i u) :
    u.globals = s.globals ∨
      ∃ n w, storeGlobal i = some n ∧ n < s.cfg.globalCap ∧ u.globals = s.globals.write n w := by
  cases h with
  | setg a n w hn => exact .inr ⟨n, w, rfl, hn, rfl⟩
  | _ => exact .inl rfl

/-- A completing instruction leaves the output, or appends one int32 to it, which only PRINT does, and
LOADRET under `LOADRET_PRINTS` (R25, R103, R106). -/
theorem Completes.out_cases (h : Completes s i u) :
    u.out = s.out ∨
      (i.mnemonic = .PRINT ∨ i.mnemonic = .LOADRET ∧ s.cfg.loadretPrints = true) ∧
        ∃ v : Word, u.out = s.out ++ [int32 v] := by
  cases h with
  | loadretPrint a n w v _ hprints => exact .inr ⟨.inr ⟨rfl, hprints⟩, v, rfl⟩
  | print a v => exact .inr ⟨.inl rfl, v, rfl⟩
  | _ => exact .inl rfl

/-- CALL checks the depth before it pushes, and RET only makes `CS` shorter (R20, R101, R102). -/
theorem Completes.depth (h : Completes s i u) (hs : s.cs.length ≤ s.cfg.callDepthCap) :
    u.cs.length ≤ s.cfg.callDepthCap := by
  cases h with
  | call k d hroom =>
    simp only [State.setFrame_cs, State.setCs_cs, List.length_append, List.length_singleton]
    omega
  | ret a fr w _ =>
    simp only [State.setRv_cs, State.setCs_cs, List.length_dropLast]
    omega
  | _ => exact hs

/-- A completing instruction leaves the record, and the status unless it halts the core (R28, R59). -/
theorem Completes.status_fault (h : Completes s i u) :
    (u.status = s.status ∨ u.status = .halted) ∧ u.fault = s.fault := by
  cases h with
  | endRun => exact ⟨.inr rfl, rfl⟩
  | _ => exact ⟨.inl rfl, rfl⟩

/-! ### Every step keeps the invariant -/

theorem Completes.memoryOk (h : Completes s i u) (hs : s.MemoryOk) : u.MemoryOk := by
  obtain ⟨-, hmethods, hcfg⟩ := h.prog_methods_cfg
  have hstack : u.stack.wf ∧ Below u.stack s.cfg.stackCap := by
    obtain he | ⟨n, w, -, hn, he⟩ := h.stack_cases <;> rw [he]
    · exact ⟨hs.stackCanonical, hs.stackInside⟩
    · exact ⟨Memory.write_wf hs.stackCanonical n w, Memory.write_below hs.stackInside hn w⟩
  have hglobals : u.globals.wf ∧ Below u.globals s.cfg.globalCap := by
    obtain he | ⟨n, w, -, hn, he⟩ := h.globals_cases <;> rw [he]
    · exact ⟨hs.globalsCanonical, hs.globalsInside⟩
    · exact ⟨Memory.write_wf hs.globalsCanonical n w, Memory.write_below hs.globalsInside hn w⟩
  exact {
    stackCanonical := hstack.1
    stackInside := hcfg ▸ hstack.2
    globalsCanonical := hglobals.1
    globalsInside := hcfg ▸ hglobals.2
    methodsRising := hmethods ▸ hs.methodsRising
    methodsInside := hmethods ▸ hcfg ▸ hs.methodsInside }

/-- Whatever is appended to the output is the int32 reading of a word (R25). -/
theorem Completes.printed (h : Completes s i u) (hs : ∀ v ∈ s.out, inInt32 v) :
    ∀ v ∈ u.out, inInt32 v := by
  obtain he | ⟨-, w, he⟩ := h.out_cases <;> rw [he]
  · exact hs
  · intro v hv
    obtain hold | rfl := (List.mem_append.mp hv).imp_right List.mem_singleton.mp
    · exact hs v hold
    · exact int32_inInt32 w

theorem Completes.ok (h : Completes s i u) (hs : s.Ok) : u.Ok := by
  obtain ⟨-, -, hcfg⟩ := h.prog_methods_cfg
  obtain ⟨hstatus, hfault⟩ := h.status_fault
  have status_of : ∀ st, st ≠ .halted → u.status = st → s.status = st := by
    rintro st hne rfl
    exact (hstatus.resolve_right hne).symm
  exact {
    memory := h.memoryOk hs.memory
    depth := hcfg ▸ h.depth hs.depth
    printed := h.printed hs.printed
    faultedHasRecord := fun e => hfault ▸ hs.faultedHasRecord (status_of _ (by decide) e)
    runningHasNone := fun e => hfault ▸ hs.runningHasNone (status_of _ (by decide) e) }

/-- Counting the instruction touches no field the invariant speaks of. -/
theorem State.Ok.count (hs : s.Ok) : s.count.Ok where
  memory := { hs.memory with }
  depth := hs.depth
  printed := hs.printed
  faultedHasRecord := hs.faultedHasRecord
  runningHasNone := hs.runningHasNone

/-- A fault taken is recorded, and it changes no memory, no frame and no output (R111). -/
theorem State.Ok.raiseFault (hs : s.Ok) (tr : Trap) : (s.raiseFault tr).Ok where
  memory := { hs.memory with }
  depth := hs.depth
  printed := hs.printed
  faultedHasRecord := fun _ => Option.some_ne_none _
  runningHasNone := nofun

/-- What a step can do: nothing, on a core that is not Running; take a fault; or complete an instruction
and count it (R54, R111). -/
theorem step_cases (h : step s = .next t) :
    t = s ∨ (∃ tr, t = s.raiseFault tr) ∨ ∃ i u, Completes s i u ∧ t = u.count := by
  unfold step at h
  split at h
  · split at h
    · cases h; exact .inr (.inl ⟨_, rfl⟩)
    · split at h
      · cases h; exact .inr (.inl ⟨_, rfl⟩)
      · obtain hfault | ⟨u, hu⟩ := exec_cases h
        · exact .inr (.inl hfault)
        · exact .inr (.inr ⟨_, u, hu⟩)
  · cases h; exact .inl rfl

/-! ### The text of the output (R25, D25) -/

/-- One digit's character is `'0'` and the digit above it. -/
theorem toNat_ofNat_digit : ∀ d < 10, (Char.ofNat (48 + d)).toNat = 48 + d := by decide

theorem isDigit_ofNat_digit : ∀ d < 10, (Char.ofNat (48 + d)).isDigit = true := by decide

theorem ofNat_digit_ne_zero_char : ∀ d < 10, d ≠ 0 → Char.ofNat (48 + d) ≠ '0' := by decide

/-- The number a string of decimal digits stands for. -/
def decimalValue (cs : List Char) : Nat := cs.foldl (fun n c => 10 * n + (c.toNat - 48)) 0

theorem decimalValue_append_digit (cs : List Char) {d : Nat} (hd : d < 10) :
    decimalValue (cs ++ [Char.ofNat (48 + d)]) = 10 * decimalValue cs + d := by
  simp [decimalValue, toNat_ofNat_digit d hd]

/-- A number below ten is its one digit. -/
theorem decimalDigits_of_lt_ten (fuel : Nat) {n : Nat} (hn : n < 10) :
    decimalDigits (fuel + 1) n = [Char.ofNat (48 + n)] := by
  simp [decimalDigits, hn, Nat.mod_eq_of_lt hn]

/-- Any other number is the digits of its tenth part, then its last digit. -/
theorem decimalDigits_of_ten_le (fuel : Nat) {n : Nat} (hn : 10 ≤ n) :
    decimalDigits (fuel + 1) n = decimalDigits fuel (n / 10) ++ [Char.ofNat (48 + n % 10)] := by
  simp [decimalDigits, Nat.not_lt.mpr hn]

theorem isDigit_of_mem_decimalDigits {fuel n : Nat} {c : Char} (hc : c ∈ decimalDigits fuel n) :
    c.isDigit = true := by
  induction fuel generalizing n with
  | zero => exact absurd hc List.not_mem_nil
  | succ fuel ih =>
    obtain hn | hn := Nat.lt_or_ge n 10
    · rw [decimalDigits_of_lt_ten fuel hn] at hc
      exact List.mem_singleton.mp hc ▸ isDigit_ofNat_digit n hn
    · rw [decimalDigits_of_ten_le fuel hn] at hc
      obtain hinit | rfl := (List.mem_append.mp hc).imp_right List.mem_singleton.mp
      · exact ih hinit
      · exact isDigit_ofNat_digit _ (Nat.mod_lt n (by decide))

/-- With fuel for every digit, the digits stand for the number. -/
theorem decimalValue_decimalDigits {fuel n : Nat} (hfuel : n < fuel) :
    decimalValue (decimalDigits fuel n) = n := by
  induction fuel generalizing n with
  | zero => omega
  | succ fuel ih =>
    obtain hn | hn := Nat.lt_or_ge n 10
    · rw [decimalDigits_of_lt_ten fuel hn]
      simpa [decimalValue] using decimalValue_append_digit [] hn
    · rw [decimalDigits_of_ten_le fuel hn, decimalValue_append_digit _ (Nat.mod_lt n (by decide)),
        ih (by omega), Nat.div_add_mod]

/-- A positive number has digits, and the first is not `'0'`. -/
theorem head_decimalDigits {fuel n : Nat} (hfuel : n < fuel) (hpos : n ≠ 0) :
    ∃ c cs, decimalDigits fuel n = c :: cs ∧ c ≠ '0' := by
  induction fuel generalizing n with
  | zero => omega
  | succ fuel ih =>
    obtain hn | hn := Nat.lt_or_ge n 10
    · exact ⟨_, [], decimalDigits_of_lt_ten fuel hn, ofNat_digit_ne_zero_char n hn hpos⟩
    · obtain ⟨c, cs, hcs, hc⟩ := ih (n := n / 10) (by omega) (by omega)
      exact ⟨c, _, by rw [decimalDigits_of_ten_le fuel hn, hcs, List.cons_append], hc⟩

/-- PRINT of a register in range appends its int32 reading to the output, and nothing else to it (R106). -/
theorem exec_print_of_hasReg {a : Nat} (h : s.hasReg a) :
    exec (.print a) s = .next ((s.addPc 1).emit (int32 (s.reg a))).count := by
  have hread : s.readInt a = .ok (int32 (s.reg a)) :=
    readInt_eq_ok.mpr ⟨_, readReg_of_hasReg h, rfl⟩
  exact congrArg Host.Outcome.next (perform_ok (by rw [addPc_readInt, hread, bind_ok]))

end Facts

/-! ### The statements settled -/

/-- Settles O12: each of the three things a step can do keeps the invariant. -/
theorem stepKeepsStateOk : Obligations.StepKeepsStateOk := by
  intro s t hs h
  obtain rfl | ⟨tr, rfl⟩ | ⟨i, u, hu, rfl⟩ := step_cases h
  · exact hs
  · exact hs.raiseFault tr
  · exact (hu.ok hs).count

/-- Settles O16: the one write a completing instruction makes to the stack is at `storeSlot`. -/
theorem stackStoresOnlyToItsSlot : Obligations.StackStoresOnlyToItsSlot := by
  intro i s t hs h a ha
  obtain ⟨tr, rfl⟩ | ⟨u, hu, rfl⟩ := exec_cases h
  · rfl
  obtain hstack | ⟨n, w, hn, -, hstack⟩ := hu.stack_cases
  · rw [State.count_stack, hstack]
  · have hne : a ≠ n := fun e => ha (e ▸ hn)
    rw [State.count_stack, hstack, Memory.read_write_of_ne hs.stackCanonical hne]

/-- Settles O17: the one write a completing instruction makes to the global store is at `storeGlobal`. -/
theorem globalsChangeOnlyBySetg : Obligations.GlobalsChangeOnlyBySetg := by
  intro i s t hs h a ha
  obtain ⟨tr, rfl⟩ | ⟨u, hu, rfl⟩ := exec_cases h
  · rfl
  obtain hglobals | ⟨n, w, hn, -, hglobals⟩ := hu.globals_cases
  · rw [State.count_globals, hglobals]
  · have hne : a ≠ n := fun e => ha (e ▸ hn)
    rw [State.count_globals, hglobals, Memory.read_write_of_ne hs.globalsCanonical hne]

/-- Settles O18: an instruction that appends is one of the two that print. -/
theorem outputGrowsOnlyByPrinting : Obligations.OutputGrowsOnlyByPrinting := by
  intro i s t h
  obtain ⟨tr, rfl⟩ | ⟨u, hu, rfl⟩ := exec_cases h
  · exact ⟨⟨[], List.append_nil _⟩, fun _ _ => rfl⟩
  rw [State.count_out]
  obtain hout | ⟨hprints, v, hout⟩ := hu.out_cases
  · exact ⟨⟨[], by rw [List.append_nil, hout]⟩, fun _ _ => hout⟩
  · refine ⟨⟨[int32 v], hout.symm⟩, fun hprint hloadret => ?_⟩
    obtain hm | ⟨hm, hon⟩ := hprints
    · exact absurd hm hprint
    · exact absurd hon (by simp [hloadret hm])

/-- Settles O19: a fault writes none of the three, and neither does a completing instruction. -/
theorem programMethodsParametersNeverWritten : Obligations.ProgramMethodsParametersNeverWritten := by
  intro i s t h
  obtain ⟨tr, rfl⟩ | ⟨u, hu, rfl⟩ := exec_cases h
  · exact ⟨rfl, rfl, rfl⟩
  · exact hu.prog_methods_cfg

/-- Settles O60: the digits of a line are those of its value's magnitude. -/
theorem outputTextForm : Obligations.OutputTextForm := by
  constructor
  · intro v
    have hfuel : v.natAbs < v.natAbs + 1 := Nat.lt_succ_self _
    refine ⟨decimalDigits (v.natAbs + 1) v.natAbs, rfl, fun c => isDigit_of_mem_decimalDigits, ?_,
      decimalValue_decimalDigits hfuel⟩
    by_cases hzero : v.natAbs = 0
    · rw [hzero]
      exact .inl (decimalDigits_of_lt_ten 0 (by decide))
    · obtain ⟨c, cs, hcs, hc⟩ := head_decimalDigits hfuel hzero
      exact .inr (by simpa [hcs] using hc)
  · intro a s h
    exact ⟨_, exec_print_of_hasReg h, by simp [State.outputText]⟩

/-- Settles O13: nothing is listed, pushed, printed or recorded at reset, and the core is Idle. -/
theorem resetStateIsOk : Obligations.ResetStateIsOk where
  memory :=
    { stackCanonical := reset_memory_wf.1
      stackInside := List.forall_mem_nil _
      globalsCanonical := reset_memory_wf.2
      globalsInside := List.forall_mem_nil _
      methodsRising := List.Pairwise.nil
      methodsInside := List.forall_mem_nil _ }
  depth := Nat.zero_le _
  printed := List.forall_mem_nil _
  faultedHasRecord := nofun
  runningHasNone := fun _ => rfl

/-- Settles O14: the fields of `State.reset` one by one; an index that is not listed reads 0. -/
theorem resetHoldsTheSpecValues : Obligations.ResetHoldsTheSpecValues :=
  ⟨rfl, rfl, rfl, rfl, fun _ => rfl, lookup_nil, rfl, rfl, rfl, rfl, rfl, rfl, rfl, rfl⟩

end Sys2Proof.Machine
end

section
/-! PROOF. A word memory reads back what was last written (20_memory.md R31, R36). -/

namespace Sys2Proof.Machine

/-- The index just written reads as the value written: a value is listed, and the value of an unlisted
index is written by listing nothing there. -/
theorem Memory.read_write_self {m : Memory} (hm : m.wf) (a : Nat) (v : Word) :
    (m.write a v).read a = v := by
  unfold Memory.write Memory.read
  split_ifs with hv
  · rw [lookup_removeAt m a a hm.1, if_pos rfl, Option.getD_none, hv]
  · rw [lookup_insertAt, if_pos rfl, Option.getD_some]

/-- Settles O20: the index read is the one written or another one. -/
theorem readGivesMostRecentWrite : Obligations.ReadGivesMostRecentWrite := by
  intro m a b v hm
  split_ifs with hb
  · rw [hb, Memory.read_write_self hm]
  · exact Memory.read_write_of_ne hm hb v

end Sys2Proof.Machine
end

section
/-! PROOF. The decoder and the encoder (30_encoding.md R41 to R52): the extractor's outputs as quotients and
remainders of the word, the opcode map and its inverse, and what each formula of the encoder decodes to. -/

namespace Sys2Proof.Machine

section Encoding

open Sys2Proof.Laws.EncodeFits (encodeR_low encodeU_low encodeS16_low encodeS24_low)

variable {w w' : Word} {m : Mnemonic}

/-! ### The extractor -/

/-- The fields as quotients and remainders; those that end at bit 31 need no remainder (R7, R42, R43). -/
theorem extract_eq (w : Word) :
    extract w =
      { op := w.toNat % 256
        rA := w.toNat / 256 % 256
        rB := w.toNat / 65536 % 256
        rC := w.toNat / 16777216
        u16 := w.toNat / 65536
        s16 := (w.toNat / 65536 : Nat) - 32768
        u24 := w.toNat / 256
        s24 := (w.toNat / 256 : Nat) - 8388608 } := by
  have hop : bits w 7 0 = w.toNat % 256 := by simp [bits]
  have hC : bits w 31 24 = w.toNat / 16777216 := Nat.mod_eq_of_lt (by omega)
  have hu16 : bits w 31 16 = w.toNat / 65536 := Nat.mod_eq_of_lt (by omega)
  have hu24 : bits w 31 8 = w.toNat / 256 := Nat.mod_eq_of_lt (by omega)
  rw [extract, hop, hC, hu16, hu24]
  rfl

theorem extract_s16 (w : Word) : (extract w).s16 = ((extract w).u16 : Int) - 32768 := rfl

theorem extract_s24 (w : Word) : (extract w).s24 = ((extract w).u24 : Int) - 8388608 := rfl

/-- The extractor's outputs are in the ranges of R42 and R43. -/
theorem extract_inRange (w : Word) :
    isReg (extract w).rA ∧ isReg (extract w).rB ∧ isReg (extract w).rC ∧ isU16 (extract w).u16 ∧
      isS16 (extract w).s16 ∧ isS24 (extract w).s24 := by
  rw [extract_eq]
  dsimp only
  omega

/-! ### The opcode map and the decoder -/

theorem opc_le (m : Mnemonic) : m.opc ≤ 0x24 := by
  cases m <;> decide

theorem opc_lt (m : Mnemonic) : m.opc < 256 := Nat.lt_of_le_of_lt (opc_le m) (by decide)

/-- `OPC⁻¹` undoes the default map (R45, R49). -/
theorem opcodeOf_opc (m : Mnemonic) : opcodeOf m.opc = some m := by
  cases m <;> rfl

/-- Every value up to 0x24 is the opcode of a mnemonic (R49). -/
theorem exists_opc_eq {n : Nat} (hn : n ≤ 0x24) : ∃ m : Mnemonic, m.opc = n := by
  have hmap : ∀ k : Fin 0x25, (opcodeOf k).map Mnemonic.opc = some k.val := by decide
  obtain ⟨m, -, hm⟩ := Option.map_eq_some_iff.mp (hmap ⟨n, Nat.lt_succ_of_le hn⟩)
  exact ⟨m, hm⟩

/-- The values above 0x24 are unassigned (R51). -/
theorem opcodeOf_eq_none {n : Nat} (hn : 0x24 < n) : opcodeOf n = none := by
  obtain ⟨k, rfl⟩ := Nat.exists_eq_add_of_le' hn
  rfl

/-- A word whose low byte is a mnemonic's opcode decodes to that mnemonic with the extracted fields. -/
theorem decode_of_opc {f : Fields} (h : w.toNat % 256 = m.opc) (hf : extract w = f) :
    decode w = .instr (instrOf m f) := by
  have hop : (extract w).op = m.opc := by rw [extract_eq, h]
  rw [decode, hop, opcodeOf_opc, hf]

/-- A word whose low byte is unassigned decodes to that value, named (R51). -/
theorem decode_of_unassigned (h : 0x24 < w.toNat % 256) : decode w = .unknown (w.toNat % 256) := by
  have hop : (extract w).op = w.toNat % 256 := by rw [extract_eq]
  rw [decode, hop, opcodeOf_eq_none h]

theorem mnemonic_instrOf (m : Mnemonic) (f : Fields) : (instrOf m f).mnemonic = m := by
  cases m <;> rfl

/-- The operands the decoder takes from a word are in range, in each of the formats of R46. -/
theorem wellFormed_instrOf_extract (m : Mnemonic) (w : Word) :
    (instrOf m (extract w)).wellFormed = true := by
  obtain ⟨hA, hB, hC, hu16, hs16, hs24⟩ := extract_inRange w
  cases m with
  | ADD | SUB | MUL | DIV | MOD | EXP | FADD | FSUB | FMUL | FDIV | FMOD | FEXP =>
    exact decide_eq_true ⟨hA, hB, hC⟩
  | SQRT | FSQRT | MOV | CMP | GT | GTE => exact decide_eq_true ⟨hA, hB⟩
  | PUSH | POP | RET | LOADRET | PRINT => exact decide_eq_true hA
  | ADDIMM | SUBIMM | MULIMM | DIVIMM | MODIMM | SQRTIMM | EXPIMM | MOVIMM16 | LOADG | SETG =>
    exact decide_eq_true ⟨hA, hu16⟩
  | JE => exact decide_eq_true ⟨hA, hs16⟩
  | CALL => exact decide_eq_true hu16
  | JMP => exact decide_eq_true hs24
  | END => rfl

/-- Two words that agree on the fields of an opcode's format hold the same operands for it (R46, R47). -/
theorem SameUsedFields.instrOf_eq (h : SameUsedFields w w') (hm : opcodeOf (extract w).op = some m) :
    instrOf m (extract w) = instrOf m (extract w') := by
  obtain ⟨-, hfields⟩ := h
  rw [hm] at hfields
  cases m with
  | ADD | SUB | MUL | DIV | MOD | EXP | FADD | FSUB | FMUL | FDIV | FMOD | FEXP =>
    obtain ⟨hA, hB, hC⟩ := hfields
    simp only [instrOf, hA, hB, hC]
  | SQRT | FSQRT | MOV | CMP | GT | GTE =>
    obtain ⟨hA, hB⟩ := hfields
    simp only [instrOf, hA, hB]
  | PUSH | POP | RET | LOADRET | PRINT =>
    have hA : (extract w).rA = (extract w').rA := hfields
    simp only [instrOf, hA]
  | ADDIMM | SUBIMM | MULIMM | DIVIMM | MODIMM | SQRTIMM | EXPIMM | MOVIMM16 | LOADG | SETG =>
    obtain ⟨hA, hu16⟩ := hfields
    simp only [instrOf, hA, hu16]
  | JE =>
    obtain ⟨hA, hu16⟩ := hfields
    simp only [instrOf, hA, extract_s16, hu16]
  | CALL =>
    have hu16 : (extract w).u16 = (extract w').u16 := hfields
    simp only [instrOf, hu16]
  | JMP =>
    have hu24 : (extract w).u24 = (extract w').u24 := hfields
    simp only [instrOf, extract_s24, hu24]
  | END => rfl

/-! ### What the encoder's formulas decode to

Each formula of R52 is read back at the fields its formats use: replacing those by the operands changes
nothing in what the extractor gives. -/

theorem extract_encodeR (m : Mnemonic) {a b c : Nat} (ha : isReg a) (hb : isReg b) (hc : isReg c) :
    extract (encodeR m a b c) = { extract (encodeR m a b c) with rA := a, rB := b, rC := c } := by
  have hm := opc_lt m
  simp only [extract_eq, encodeR, BitVec.toNat_ofNat, Fields.mk.injEq, true_and, and_true]
  omega

theorem extract_encodeU (m : Mnemonic) {a u : Nat} (ha : isReg a) (hu : isU16 u) :
    extract (encodeU m a u) = { extract (encodeU m a u) with rA := a, u16 := u } := by
  have hm := opc_lt m
  simp only [extract_eq, encodeU, BitVec.toNat_ofNat, Fields.mk.injEq, true_and, and_true]
  omega

/-- The excess code of R43: the field holds `s + 2^15`, and the extractor subtracts it. -/
theorem extract_encodeS16 (m : Mnemonic) {a : Nat} {s : Int} (ha : isReg a) (hs : isS16 s) :
    extract (encodeS16 m a s) = { extract (encodeS16 m a s) with rA := a, s16 := s } := by
  have hm := opc_lt m
  simp only [extract_eq, encodeS16, BitVec.toNat_ofNat, Fields.mk.injEq, true_and, and_true]
  omega

/-- The excess code of R43: the field holds `s + 2^23`, and the extractor subtracts it. -/
theorem extract_encodeS24 (m : Mnemonic) {s : Int} (hs : isS24 s) :
    extract (encodeS24 m s) = { extract (encodeS24 m s) with s24 := s } := by
  have hm := opc_lt m
  simp only [extract_eq, encodeS24, BitVec.toNat_ofNat, Fields.mk.injEq, true_and]
  omega

theorem decode_encodeR (m : Mnemonic) {a b c : Nat} (ha : isReg a) (hb : isReg b) (hc : isReg c) :
    decode (encodeR m a b c) =
      .instr (instrOf m { extract (encodeR m a b c) with rA := a, rB := b, rC := c }) :=
  decode_of_opc (encodeR_low m (opc_lt m) a b c) (extract_encodeR m ha hb hc)

theorem decode_encodeU (m : Mnemonic) {a u : Nat} (ha : isReg a) (hu : isU16 u) :
    decode (encodeU m a u) =
      .instr (instrOf m { extract (encodeU m a u) with rA := a, u16 := u }) :=
  decode_of_opc (encodeU_low m (opc_lt m) a u) (extract_encodeU m ha hu)

theorem decode_encodeS16 (m : Mnemonic) {a : Nat} {s : Int} (ha : isReg a) (hs : isS16 s) :
    decode (encodeS16 m a s) =
      .instr (instrOf m { extract (encodeS16 m a s) with rA := a, s16 := s }) :=
  decode_of_opc (encodeS16_low m (opc_lt m) a s) (extract_encodeS16 m ha hs)

theorem decode_encodeS24 (m : Mnemonic) {s : Int} (hs : isS24 s) :
    decode (encodeS24 m s) = .instr (instrOf m { extract (encodeS24 m s) with s24 := s }) :=
  decode_of_opc (encodeS24_low m (opc_lt m) s) (extract_encodeS24 m hs)

end Encoding

/-! ### The statements settled -/

/-- Settles O1: each instruction is encoded by one of the four formulas, which decodes to the mnemonic with
the operands it was given; an unused field is 0. -/
theorem decodeEncodeRoundTrip : Obligations.DecodeEncodeRoundTrip := by
  intro i h
  have hzero : isReg 0 := by decide
  cases i with
  | add a b c | sub a b c | mul a b c | div a b c | mod a b c | exp a b c
  | fadd a b c | fsub a b c | fmul a b c | fdiv a b c | fmod a b c | fexp a b c =>
    obtain ⟨ha, hb, hc⟩ := of_decide_eq_true h
    exact decode_encodeR _ ha hb hc
  | sqrt a b | fsqrt a b | mov a b | cmp a b | gt a b | gte a b =>
    obtain ⟨ha, hb⟩ := of_decide_eq_true h
    exact decode_encodeR _ ha hb hzero
  | push a | pop a | ret a | loadret a | print a =>
    exact decode_encodeR _ (of_decide_eq_true h) hzero hzero
  | endRun => exact decode_encodeR _ hzero hzero hzero
  | addimm a u | subimm a u | mulimm a u | divimm a u | modimm a u
  | sqrtimm a u | expimm a u | movimm16 a u | loadg a u | setg a u =>
    obtain ⟨ha, hu⟩ := of_decide_eq_true h
    exact decode_encodeU _ ha hu
  | call u => exact decode_encodeU _ hzero (of_decide_eq_true h)
  | je a s =>
    obtain ⟨ha, hs⟩ := of_decide_eq_true h
    exact decode_encodeS16 _ ha hs
  | jmp s => exact decode_encodeS24 _ (of_decide_eq_true h)

/-- Settles O2: the opcode byte selects the mnemonic, and the mnemonic takes only the fields of its format. -/
theorem unusedBitsAreIgnored : Obligations.UnusedBitsAreIgnored := by
  intro w w' h
  rw [decode, decode, ← h.1]
  cases hm : opcodeOf (extract w).op with
  | none => rfl
  | some m => exact congrArg Decoded.instr (h.instrOf_eq hm)

/-- Settles O3: a value up to 0x24 is the opcode of a mnemonic, a value above it of none. -/
theorem exactlyTheAssignedOpcodesDecode : Obligations.ExactlyTheAssignedOpcodesDecode := by
  refine fun w => ⟨fun hle => ?_, decode_of_unassigned⟩
  obtain ⟨m, hm⟩ := exists_opc_eq hle
  exact ⟨instrOf m (extract w), decode_of_opc hm.symm rfl, wellFormed_instrOf_extract m w,
    by rw [mnemonic_instrOf, hm]⟩

/-- Settles O4: JE, JMP and MOVIMM16 by their opcodes, with the fields `extract_eq` gives. -/
theorem signedOffsetsAreExcessCoded : Obligations.SignedOffsetsAreExcessCoded := fun w =>
  ⟨fun h => decode_of_opc (m := .JE) h (extract_eq w), fun h => decode_of_opc (m := .JMP) h (extract_eq w),
    fun h => decode_of_opc (m := .MOVIMM16) h (extract_eq w)⟩

end Sys2Proof.Machine
end

section
/-! PROOF. The step of the core (40_dispatch_loop.md R54 to R60, R111): the fetch and each branch of the step
as an equation, what one instruction leaves in the registers and the count, the kinds of the faults it can
raise, and from these the inversion of a Running core's step and the count of a whole run (R114, R124). -/

namespace Sys2Proof.Machine

section Dispatch

variable {s t u : State} {i : Instr} {w : Word}

/-! ### The fetch and the branches of the step -/

/-- The model's fetch finds the word the spec's range check allows it (R55). -/
theorem fetch_eq_wordAtPc (s : State) : s.fetch = s.wordAtPc := by
  unfold State.fetch State.wordAtPc
  by_cases hneg : int32 s.pc < 0
  · rw [if_pos hneg, if_neg (by omega)]
  · by_cases hlt : int32 s.pc < s.prog.length
    · rw [if_neg hneg, if_pos (by omega)]
    · rw [if_neg hneg, if_neg (by omega), List.getElem?_eq_none (by omega)]

theorem wordAtPc_eq_none (h : int32 s.pc < 0 ∨ (s.prog.length : Int) ≤ int32 s.pc) :
    s.wordAtPc = none :=
  if_neg (by omega)

theorem step_of_not_running (h : s.status ≠ .running) : step s = .next s := if_neg h

theorem step_of_wordAtPc_eq_none (hrun : s.status = .running) (hw : s.wordAtPc = none) :
    step s = .next (s.raiseFault ⟨.fetchOutOfRange, int32 s.pc⟩) := by
  rw [step, if_pos hrun, fetch_eq_wordAtPc, hw]

theorem step_of_unknown {op : Nat} (hrun : s.status = .running) (hw : s.wordAtPc = some w)
    (hd : decode w = .unknown op) : step s = .next (s.raiseFault ⟨.unknownOpcode, op⟩) := by
  rw [step, if_pos hrun, fetch_eq_wordAtPc, hw]
  simp only [hd]

theorem step_of_about (h : s.about i) : step s = exec i s := by
  obtain ⟨hrun, w, hw, hd⟩ := h
  rw [step, if_pos hrun, fetch_eq_wordAtPc, hw]
  simp only [hd]

/-! ### What a completing instruction leaves, continued -/

/-- Only CALL and RET move the base pointer and the frame stack (R14, R20). -/
theorem Completes.bp_cs (h : Completes s i u) (hcall : i.mnemonic ≠ .CALL) (hret : i.mnemonic ≠ .RET) :
    u.bp = s.bp ∧ u.cs = s.cs := by
  cases h with
  | call => exact absurd rfl hcall
  | ret => exact absurd rfl hret
  | _ => exact ⟨rfl, rfl⟩

/-- Only PUSH, POP, CALL and RET move the stack pointer (R17). -/
theorem Completes.sp (h : Completes s i u) (hpush : i.mnemonic ≠ .PUSH) (hpop : i.mnemonic ≠ .POP)
    (hcall : i.mnemonic ≠ .CALL) (hret : i.mnemonic ≠ .RET) : u.sp = s.sp := by
  cases h with
  | push => exact absurd rfl hpush
  | pop => exact absurd rfl hpop
  | call => exact absurd rfl hcall
  | ret => exact absurd rfl hret
  | _ => rfl

/-- Only RET writes the return-value register (R21). -/
theorem Completes.rv (h : Completes s i u) (hret : i.mnemonic ≠ .RET) : u.rv = s.rv := by
  cases h with
  | ret => exact absurd rfl hret
  | _ => rfl

/-- An instruction's own effect does not count it; the step around it does (R27, R58). -/
theorem Completes.icount (h : Completes s i u) : u.icount = s.icount := by
  cases h <;> rfl

/-- Only END changes the status (R59, R107). -/
theorem Completes.status_of_ne_endRun (h : Completes s i u) (hend : i ≠ .endRun) :
    u.status = s.status := by
  cases h with
  | endRun => exact absurd rfl hend
  | _ => rfl

/-! ### The faults an instruction can raise

`exec_cases` leaves open which fault an instruction takes. Each is one of R108's, which has a code; the one
kind without a code, an abort, is the host's (R114). -/

/-- A fault is of a kind that has a code, and an answer satisfies `P`. -/
def CodedFaultOr {α : Type} (P : α → Prop) : Except Trap α → Prop
  | .ok a => P a
  | .error tr => tr.kind.code ≠ none

section Effects

variable {α β : Type} {Q : β → Prop} {n k : Nat} {pc0 a b : Int}

theorem CodedFaultOr.bind {x : Except Trap α} {f : α → Except Trap β}
    (h : CodedFaultOr (fun a => CodedFaultOr Q (f a)) x) : CodedFaultOr Q (x >>= f) := by
  cases x <;> exact h

theorem CodedFaultOr.slot {P : Nat → Prop} {kind : FaultKind} (hkind : kind.code ≠ none)
    (h : ∀ m, P m) : CodedFaultOr P (s.slot kind a) := by
  unfold State.slot
  split_ifs
  · exact hkind
  · exact h _

theorem CodedFaultOr.stackSlot {P : Nat → Prop} (h : ∀ m, P m) : CodedFaultOr P (s.stackSlot a) :=
  .slot (by decide) h

theorem CodedFaultOr.regAddr {P : Nat → Prop} (h : ∀ m, P m) : CodedFaultOr P (s.regAddr n) :=
  .slot (by decide) h

theorem CodedFaultOr.readReg {P : Word → Prop} (h : ∀ w, P w) : CodedFaultOr P (s.readReg n) :=
  .bind (.regAddr fun _ => h _)

theorem CodedFaultOr.readInt {P : Int → Prop} (h : ∀ v, P v) : CodedFaultOr P (s.readInt n) :=
  .bind (.readReg fun _ => h _)

theorem CodedFaultOr.readF32 {P : FVal → Prop} (h : ∀ v, P v) : CodedFaultOr P (s.readF32 n) :=
  .bind (.readReg fun _ => h _)

theorem CodedFaultOr.writeReg {P : State → Prop} (h : ∀ m, P (s.setStack m)) :
    CodedFaultOr P (s.writeReg n w) :=
  .bind (.regAddr fun _ => h _)

theorem CodedFaultOr.writeResult {P : State → Prop} {r : Except Trap Int}
    (hr : CodedFaultOr (fun _ => True) r) (h : ∀ m, P (s.setStack m)) :
    CodedFaultOr P (s.writeResult n r) := by
  cases r with
  | ok v => exact .writeReg h
  | error tr => exact hr

theorem CodedFaultOr.writeInt {P : State → Prop} (h : ∀ m, P (s.setStack m)) :
    CodedFaultOr P (s.writeInt n a) := by
  refine .writeResult ?_ h
  unfold State.overflow
  split_ifs
  · nofun
  · trivial

theorem CodedFaultOr.writeF32 {P : State → Prop} {v : FVal}
    (h : ∀ m d, P ((s.setStack m).setNanDraws d)) :
    CodedFaultOr P (s.writeF32 n v) := by
  cases v with
  | some x => exact .writeReg fun m => h m s.nanDraws
  | none => exact .bind (.writeReg fun m => h m _)

theorem CodedFaultOr.divide : CodedFaultOr (fun _ => True) (divide pc0 a b) := by
  unfold Machine.divide
  split_ifs
  · nofun
  · nofun
  · trivial

theorem CodedFaultOr.modulo : CodedFaultOr (fun _ => True) (modulo pc0 a b) := by
  unfold Machine.modulo
  split_ifs
  · nofun
  · nofun
  · trivial

theorem CodedFaultOr.truncOrFault {v : FVal} : CodedFaultOr (fun _ => True) (truncOrFault pc0 v) := by
  unfold Machine.truncOrFault
  cases truncI v with
  | some x => trivial
  | none => nofun

theorem CodedFaultOr.globalIndex {P : Nat → Prop} (h : ∀ m, P m) : CodedFaultOr P (s.globalIndex k) := by
  unfold State.globalIndex
  split_ifs
  · nofun
  · exact h _

theorem CodedFaultOr.method {P : MethodDesc → Prop} (h : ∀ d, P d) : CodedFaultOr P (s.method k) := by
  unfold State.method
  split_ifs
  · nofun
  · cases lookup s.methods k with
    | none => nofun
    | some d => exact h d

theorem CodedFaultOr.pushFrame {P : State → Prop} (h : ∀ l, P (s.setCs l)) :
    CodedFaultOr P (s.pushFrame k) := by
  unfold State.pushFrame
  split_ifs
  · nofun
  · exact h _

theorem CodedFaultOr.popFrame {P : State → Prop} (h : ∀ f l, P ((s.setFrame f).setCs l)) :
    CodedFaultOr P (s.popFrame pc0) := by
  unfold State.popFrame
  cases s.cs.getLast? with
  | none => nofun
  | some f => exact h f _

end Effects

/-- Every instruction's meaning performs an effect that raises only faults with a code and leaves the count
to the step around it (R58, R108). -/
theorem exec_eq_perform (i : Instr) :
    ∃ e : Int → State → Except Trap State,
      (∀ pc0 s, CodedFaultOr (fun u => u.icount = s.icount) (e pc0 s)) ∧
        ∀ s, exec i s = .next (s.perform e) := by
  cases i <;> refine ⟨_, fun pc0 s => ?_, fun s => rfl⟩
  case add | sub | mul =>
    exact .bind (.readInt fun _ => .bind (.readInt fun _ => .writeInt fun _ => rfl))
  case div => exact .bind (.readInt fun _ => .bind (.readInt fun _ => .writeResult .divide fun _ => rfl))
  case mod => exact .bind (.readInt fun _ => .bind (.readInt fun _ => .writeResult .modulo fun _ => rfl))
  case exp =>
    exact .bind (.readInt fun _ => .bind (.readInt fun _ => .writeResult .truncOrFault fun _ => rfl))
  case addimm | subimm | mulimm => exact .bind (.readInt fun _ => .writeInt fun _ => rfl)
  case divimm => exact .bind (.readInt fun _ => .writeResult .divide fun _ => rfl)
  case modimm => exact .bind (.readInt fun _ => .writeResult .modulo fun _ => rfl)
  case sqrt | expimm => exact .bind (.readInt fun _ => .writeResult .truncOrFault fun _ => rfl)
  case sqrtimm => exact .writeResult .truncOrFault fun _ => rfl
  case fadd | fsub | fmul | fdiv | fmod =>
    exact .bind (.readF32 fun _ => .bind (.readF32 fun _ => .writeF32 fun _ _ => rfl))
  case fsqrt => exact .bind (.readF32 fun _ => .writeF32 fun _ _ => rfl)
  case fexp => exact .bind (.readReg fun _ => .bind (.readReg fun _ => .writeF32 fun _ _ => rfl))
  case push => exact .bind (.readReg fun _ => .bind (.stackSlot fun _ => rfl))
  case pop => exact .bind (.stackSlot fun _ => .bind (.writeReg fun _ => rfl))
  case mov => exact .bind (.readReg fun _ => .writeReg fun _ => rfl)
  case loadg => exact .bind (.globalIndex fun _ => .writeReg fun _ => rfl)
  case setg => exact .bind (.readReg fun _ => .bind (.globalIndex fun _ => rfl))
  case movimm16 => exact .writeReg fun _ => rfl
  case cmp | gt | gte =>
    refine .bind (.readInt fun _ => .bind (.readInt fun _ => ?_))
    unfold State.skipIf
    split_ifs <;> rfl
  case je =>
    refine .bind (.readInt fun _ => ?_)
    split_ifs <;> rfl
  case call => exact .bind (.method fun _ => .bind (.pushFrame fun _ => rfl))
  case ret => exact .bind (.readReg fun _ => .bind (.popFrame fun _ _ => rfl))
  case loadret =>
    refine .bind (.writeReg fun _ => ?_)
    split_ifs <;> rfl
  case print => exact .bind (.readInt fun _ => rfl)
  case jmp | endRun => rfl

/-- `exec_cases` with the kind of the fault. A fault taken leaves the count and a completed effect is counted,
so the two ways `State.perform` ends are the two of `exec_cases`. -/
theorem exec_coded_cases (h : exec i s = .next t) :
    (∃ tr, tr.kind.code ≠ none ∧ t = s.raiseFault tr) ∨ ∃ u, Completes s i u ∧ t = u.count := by
  obtain ⟨tr, rfl⟩ | hcompletes := exec_cases h
  · obtain ⟨e, he, hexec⟩ := exec_eq_perform i
    have heffect := he (int32 s.pc) (s.addPc 1)
    have hperf : s.perform e = s.raiseFault tr := Host.Outcome.next.inj ((hexec s).symm.trans h)
    obtain ⟨u, hu, hcount⟩ | ⟨tr', htr, hfault⟩ := perform_cases s e
    · rw [hu] at heffect
      have hicount : u.icount + 1 = s.icount := congrArg State.icount (hcount.symm.trans hperf)
      have hkept : u.icount = s.icount := heffect
      rw [hkept] at hicount
      bv_omega
    · rw [htr] at heffect
      exact .inl ⟨tr', heffect, hperf.symm.trans hfault⟩
  · exact .inr hcompletes

/-! ### The inversion of the step -/

/-- What a step of a Running core can do: take a fault that has a code, or complete the instruction at `pc`
and count it (R54, R58, R111). -/
theorem running_step_cases (hrun : s.status = .running) (h : step s = .next t) :
    (∃ tr, tr.kind.code ≠ none ∧ t = s.raiseFault tr) ∨
      ∃ i u, s.about i ∧ Completes s i u ∧ t = u.count := by
  cases hw : s.wordAtPc with
  | none =>
    obtain rfl := Host.Outcome.next.inj ((step_of_wordAtPc_eq_none hrun hw).symm.trans h)
    exact .inl ⟨_, by nofun, rfl⟩
  | some w =>
    cases hd : decode w with
    | unknown op =>
      obtain rfl := Host.Outcome.next.inj ((step_of_unknown hrun hw hd).symm.trans h)
      exact .inl ⟨_, by nofun, rfl⟩
    | instr i =>
      have habout : s.about i := ⟨hrun, w, hw, hd⟩
      rw [step_of_about habout] at h
      exact (exec_coded_cases h).imp_right fun ⟨u, hu, ht⟩ => ⟨i, u, habout, hu, ht⟩

/-- No step stops with a fault or a refusal of the model (log 8). -/
theorem exists_step_eq_next (s : State) : ∃ t, step s = .next t := by
  by_cases hrun : s.status = .running
  · cases hw : s.wordAtPc with
    | none => exact ⟨_, step_of_wordAtPc_eq_none hrun hw⟩
    | some w =>
      cases hd : decode w with
      | unknown op => exact ⟨_, step_of_unknown hrun hw hd⟩
      | instr i =>
        obtain ⟨e, -, hexec⟩ := exec_eq_perform i
        exact ⟨_, (step_of_about ⟨hrun, w, hw, hd⟩).trans (hexec s)⟩
  · exact ⟨s, step_of_not_running hrun⟩

/-- A completing instruction leaves the count and the record, and the step around it counts it (R58). -/
theorem icount_fault_of_step (hrun : s.status = .running) (h : step s = .next t)
    (ht : t.status ≠ .faulted) : t.icount = s.icount + 1 ∧ t.fault = s.fault := by
  obtain ⟨tr, -, rfl⟩ | ⟨i, u, -, hu, rfl⟩ := running_step_cases hrun h
  · exact absurd rfl ht
  · exact ⟨congrArg (· + 1) hu.icount, hu.status_fault.2⟩

/-! ### A run of steps -/

theorem runSteps_succ (h : step s = .next t) (n : Nat) : runSteps (n + 1) s = runSteps n t := by
  rw [runSteps, h]

theorem runSteps_of_not_running (h : s.status ≠ .running) (n : Nat) : runSteps n s = s := by
  induction n with
  | zero => rfl
  | succ n ih => rw [runSteps_succ (step_of_not_running h), ih]

theorem running_of_runSteps {n : Nat} (h : (runSteps n s).status = .running) : s.status = .running := by
  by_contra hstopped
  rw [runSteps_of_not_running hstopped] at h
  exact hstopped h

/-- What every step keeps, a run of steps keeps. -/
theorem runSteps_keeps {P : State → Prop} (hkeep : ∀ s t, P s → step s = .next t → P t)
    (hs : P s) (n : Nat) : P (runSteps n s) := by
  induction n generalizing s with
  | zero => exact hs
  | succ n ih =>
    obtain ⟨t, ht⟩ := exists_step_eq_next s
    rw [runSteps_succ ht]
    exact ih (hkeep s t hs ht)

/-- A core still Running after `n` steps has completed and counted each of them (R58). -/
theorem icount_runSteps {n : Nat} (h : (runSteps n s).status = .running) :
    (runSteps n s).icount = s.icount + BitVec.ofNat 64 n := by
  induction n generalizing s with
  | zero => exact (BitVec.add_zero _).symm
  | succ n ih =>
    have hrun := running_of_runSteps h
    obtain ⟨t, ht⟩ := exists_step_eq_next s
    rw [runSteps_succ ht] at h ⊢
    have hcompleted : t.status ≠ .faulted := by simp [running_of_runSteps h]
    rw [ih h, (icount_fault_of_step hrun ht hcompleted).1]
    bv_omega

/-- The record, where there is one, is of a fault with a code, so not of an abort (R108, R114). -/
def State.RecordCoded (s : State) : Prop := ∀ r, s.fault = some r → r.kind.code ≠ none

/-- Only the host records an abort: a step keeps the record or writes one whose kind has a code. -/
theorem State.RecordCoded.step (hs : s.RecordCoded) (h : step s = .next t) : t.RecordCoded := by
  by_cases hrun : s.status = .running
  · obtain ⟨tr, hcode, rfl⟩ | ⟨i, u, -, hu, rfl⟩ := running_step_cases hrun h
    · rintro r ⟨⟩
      exact hcode
    · exact fun r hr => hs r (hu.status_fault.2.symm.trans hr)
  · obtain rfl := Host.Outcome.next.inj ((step_of_not_running hrun).symm.trans h)
    exact hs

/-! ### What a run returns -/

theorem hostAbort_of_not_running (h : s.status ≠ .running) : hostAbort s = s := if_neg h

/-- An abort leaves the count as the last completed step left it (R114). -/
theorem icount_hostAbort (s : State) : (hostAbort s).icount = s.icount := by
  unfold hostAbort
  split_ifs <;> rfl

/-- A run that starts is Running with no instruction counted and no record (R123). -/
theorem hostRun_eq_ok {program : List Word} {entry : Int} (h : hostRun program entry s = .ok u) :
    u.status = .running ∧ u.icount = 0 ∧ u.fault = none := by
  unfold hostRun at h
  split_ifs at h
  cases h
  exact ⟨rfl, rfl, rfl⟩

theorem hostRunBudget_eq_ok {n : Nat} {program : List Word} {entry : Int}
    (h : hostRunBudget n program entry s = .ok t) :
    ∃ u, hostRun program entry s = .ok u ∧ t = hostAbort (runSteps n u) := by
  unfold hostRunBudget at h
  cases hu : hostRun program entry s with
  | error e => rw [hu] at h; cases h
  | ok u => rw [hu] at h; cases h; exact ⟨u, rfl, rfl⟩

/-- Only a recorded abort is returned as one, with the count the state holds (R112, R114). -/
theorem runResult_eq_aborted {c : BitVec 64} (h : s.runResult = some (.aborted c)) :
    s.icount = c ∧ ∃ r, s.fault = some r ∧ r.kind = .aborted := by
  unfold State.runResult at h
  split at h
  case h_2 r hstatus hfault =>
    split at h
    case h_1 hkind =>
      cases h
      exact ⟨rfl, r, hfault, hkind⟩
    case h_2 => cases h
  all_goals cases h

end Dispatch

/-! ### The statements settled -/

/-- Settles O6: the fetch finds the word, and the decoder gives the instruction. -/
theorem stepRunsDecodedInstruction : Obligations.StepRunsDecodedInstruction :=
  fun _ _ => step_of_about

/-- Settles O7: the two branches of the step that reach no instruction; the record's word is what was
fetched. -/
theorem stepFaultsOnBadFetchOrOpcode : Obligations.StepFaultsOnBadFetchOrOpcode := by
  refine fun s hrun => ⟨fun hout => ?_, fun w hw hop => ?_⟩
  · have hnone := wordAtPc_eq_none hout
    rw [step_of_wordAtPc_eq_none hrun hnone, raiseFault_eq, fetch_eq_wordAtPc, hnone]
  · rw [step_of_unknown hrun hw (decode_of_unassigned hop), raiseFault_eq, fetch_eq_wordAtPc, hw]

/-- Settles O8: neither the step nor the abort acts on a core that is not Running, and the other four host
operations ask for a status that Faulted is not. -/
theorem stoppedCoreRunsNothing : Obligations.StoppedCoreRunsNothing := by
  refine fun s => ⟨step_of_not_running, fun hfaulted => ?_⟩
  have hready : s.status.ready = false := by rw [hfaulted]; rfl
  exact ⟨fun _ _ => if_pos hready, fun _ _ => if_pos hready, fun _ _ => if_pos hready, if_pos hready,
    hostAbort_of_not_running (by simp [hfaulted])⟩

/-- Settles O10: every step that does not fault completes an instruction, which leaves count and record. -/
theorem completedStepCountsOne : Obligations.CompletedStepCountsOne :=
  fun _ _ => icount_fault_of_step

/-- Settles O11: a fault leaves the core Faulted, every other instruction leaves it Running, and END has no
check that could fault. -/
theorem onlyEndHalts : Obligations.OnlyEndHalts := by
  refine fun s t hrun h => ⟨fun hhalted => ?_, fun hend => ?_⟩
  · obtain ⟨tr, -, rfl⟩ | ⟨i, u, habout, hu, rfl⟩ := running_step_cases hrun h
    · cases hhalted
    · by_cases hi : i = .endRun
      · exact hi ▸ habout
      · rw [State.count_status, hu.status_of_ne_endRun hi, hrun] at hhalted
        cases hhalted
  · obtain rfl := Host.Outcome.next.inj ((step_of_about hend).symm.trans h)
    rfl

/-- Settles O15: a fault moves no register, a completing instruction those its `Completes` case writes. -/
theorem registersMoveOnlyByTheirInstructions : Obligations.RegistersMoveOnlyByTheirInstructions := by
  intro i s t h
  obtain ⟨tr, rfl⟩ | ⟨u, hu, rfl⟩ := exec_cases h
  · exact ⟨fun _ _ => ⟨rfl, rfl⟩, fun _ _ _ _ => rfl, fun _ => rfl⟩
  · exact ⟨hu.bp_cs, hu.sp, hu.rv⟩

/-- Settles O57: the steps record no abort, so the abort returned is the host's, on a core still Running
after its `n` steps. -/
theorem abortedRunReturnsItsBudget : Obligations.AbortedRunReturnsItsBudget := by
  intro n program entry s t c hbudget hresult
  obtain ⟨u, hu, rfl⟩ := hostRunBudget_eq_ok hbudget
  obtain ⟨-, hzero, hnone⟩ := hostRun_eq_ok hu
  obtain ⟨rfl, r, hr, hkind⟩ := runResult_eq_aborted hresult
  by_cases hrun : (runSteps n u).status = .running
  · rw [icount_hostAbort, icount_runSteps hrun, hzero]
    exact BitVec.zero_add _
  · have hstart : u.RecordCoded := by simp [State.RecordCoded, hnone]
    have hcoded := runSteps_keeps (fun _ _ hs => hs.step) hstart n
    rw [hostAbort_of_not_running hrun] at hr
    exact absurd (congrArg FaultKind.code hkind) (hcoded r hr)

end Sys2Proof.Machine
end

section
/-! PROOF. The outcomes of the integer instructions (41_int_arith.md R62, R65 to R71). Each of them reads its
sources in order and writes one result, a number or an arithmetic fault, to its destination; what follows
from that is proved once, for any list of sources. -/

namespace Sys2Proof.Machine

section Outcomes

variable {s : State} {i : Instr} {n a b c : Nat} {srcs : List Nat} {bad : Option Trap} {v : Int}

/-! ### Reading a source -/

theorem readInt_of_hasReg (h : s.hasReg n) : s.readInt n = .ok (int32 (s.reg n)) := by
  simp [State.readInt, readReg_of_hasReg h]

theorem readInt_of_not_hasReg (h : ¬ s.hasReg n) :
    s.readInt n = .error ⟨.registerOutOfRange, int32 s.bp + n⟩ := by
  simp [State.readInt, readReg_of_not_hasReg h]

/-- An effect that raises a fault is the instruction raising it (R111). -/
theorem raises_of_effect {e : Int → State → Except Trap State} {kind : FaultKind} {info : Int}
    (hexec : exec i s = .next (s.perform e)) (he : e (int32 s.pc) (s.addPc 1) = .error ⟨kind, info⟩) :
    Raises i s kind info := by
  rw [Raises, hexec, perform_error he, raiseFault_eq]

theorem sourceFaults_nil : SourceFaults i [] s :=
  fun pre _ _ hsplit => absurd hsplit.symm (List.append_ne_nil_of_right_ne_nil pre (List.cons_ne_nil _ _))

/-- The sources are checked one after the other (R110). -/
theorem sourceFaults_cons (hhead : ¬ s.hasReg n → Raises i s .registerOutOfRange (int32 s.bp + n))
    (htail : s.hasReg n → SourceFaults i srcs s) : SourceFaults i (n :: srcs) s := by
  intro pre m post hsplit hpre hm
  cases pre with
  | nil =>
    obtain ⟨rfl, -⟩ := List.cons.inj hsplit
    exact hhead hm
  | cons p pre =>
    obtain ⟨rfl, rfl⟩ := List.cons.inj hsplit
    obtain ⟨hn, hpre⟩ := List.forall_mem_cons.mp hpre
    exact htail hn pre m post rfl hpre hm

/-! ### From the effect to the outcomes -/

/-- The answer of an arithmetic operation: the fault it raises, or its value. -/
def answer (bad : Option Trap) (v : Int) : Except Trap Int :=
  match bad with
  | none => .ok v
  | some t => .error t

theorem IntOutcome.cons (hhead : ¬ s.hasReg n → Raises i s .registerOutOfRange (int32 s.bp + n))
    (htail : s.hasReg n → IntOutcome i srcs a s bad v) : IntOutcome i (n :: srcs) a s bad v :=
  ⟨sourceFaults_cons hhead fun hn => (htail hn).1, fun hall =>
    have ⟨hn, hsrcs⟩ := List.forall_mem_cons.mp hall
    (htail hn).2 hsrcs⟩

/-- An effect that only writes an answer to the destination: the answer's fault is raised before the
destination is checked (R110 (3), D17). -/
theorem intOutcome_nil {e : Int → State → Except Trap State}
    (hexec : exec i s = .next (s.perform e))
    (he : e (int32 s.pc) (s.addPc 1) = (s.addPc 1).writeResult a (answer bad v)) :
    IntOutcome i [] a s bad v := by
  refine ⟨sourceFaults_nil, fun _ => ⟨?_, ?_, ?_⟩⟩
  · rintro rfl ha
    have hwrite : e (int32 s.pc) (s.addPc 1) =
        .ok ((s.addPc 1).setStack (s.stack.write (s.slotOf a) (wrap32 v))) :=
      he.trans (writeResult_eq_ok.mpr ⟨v, _, rfl, regAddr_of_hasReg ha, rfl⟩)
    rw [hexec, perform_ok hwrite]
    rfl
  · rintro rfl ha
    exact raises_of_effect hexec
      (he.trans (writeResult_eq_error.mpr (.inr ⟨⟨v, rfl⟩, regAddr_of_not_hasReg ha⟩)))
  · rintro t rfl
    exact raises_of_effect hexec (he.trans (writeResult_eq_error.mpr (.inl rfl)))

/-- The outcomes of an instruction with one source; `op` is its operation, given `pc0`, the advanced state
and the source. -/
theorem intOutcome_one {op : Int → State → Int → Except Trap Int}
    (hexec : exec i s = .next (s.perform fun pc0 t => do
      let x ← t.readInt b
      t.writeResult a (op pc0 t x)))
    (hop : op (int32 s.pc) (s.addPc 1) (int32 (s.reg b)) = answer bad v) :
    IntOutcome i [b] a s bad v := by
  refine .cons (fun hb => ?_) fun hb => ?_
  · exact raises_of_effect hexec (by simp [readInt_of_not_hasReg hb])
  · exact intOutcome_nil hexec (by simp [readInt_of_hasReg hb, hop])

/-- The outcomes of an instruction with two sources. -/
theorem intOutcome_two {op : Int → State → Int → Int → Except Trap Int}
    (hexec : exec i s = .next (s.perform fun pc0 t => do
      let x ← t.readInt b
      let y ← t.readInt c
      t.writeResult a (op pc0 t x y)))
    (hop : op (int32 s.pc) (s.addPc 1) (int32 (s.reg b)) (int32 (s.reg c)) = answer bad v) :
    IntOutcome i [b, c] a s bad v := by
  refine .cons (fun hb => ?_) fun hb => .cons (fun hc => ?_) fun hc => ?_
  · exact raises_of_effect hexec (by simp [readInt_of_not_hasReg hb])
  · exact raises_of_effect hexec (by simp [readInt_of_hasReg hb, readInt_of_not_hasReg hc])
  · exact intOutcome_nil hexec (by simp [readInt_of_hasReg hb, readInt_of_hasReg hc, hop])

/-! ### The operations as answers -/

theorem overflow_addPc_eq_answer (s : State) (k v : Int) :
    (s.addPc k).overflow v = answer (overflowFault s v) v := by
  unfold State.overflow overflowFault
  rw [State.addPc_cfg]
  split_ifs <;> rfl

/-- Truncation toward zero treats both signs alike (R64). -/
theorem truncRat_neg (q : ℚ) : truncRat (-q) = -truncRat q := by
  unfold truncRat
  rcases lt_trichotomy q 0 with hq | rfl | hq
  · rw [if_neg (by linarith), if_pos hq, Int.floor_neg]
  · simp
  · rw [if_pos (by linarith), if_neg (by linarith), Int.ceil_neg]

theorem truncRat_natCast_div (n d : Nat) : truncRat ((n : ℚ) / d) = (n / d : Nat) := by
  have hnonneg : ¬ (n : ℚ) / d < 0 := not_lt.mpr (by positivity)
  rw [truncRat, if_neg hnonneg, ← Int.natCast_floor_eq_floor (not_lt.mp hnonneg), Nat.floor_div_eq_div]

/-- `truncI`'s integer is the value without its fraction (R64). -/
theorem truncRat_value (neg : Bool) (m : Nat) (e : Int) :
    truncRat (FNum.fin neg m e).value = truncToward0 neg m e := by
  have hratio : (m : ℚ) * 2 ^ e = (m * 2 ^ e.toNat : Nat) / (2 ^ (-e).toNat : Nat) := by
    rw [two_zpow_eq]
    push_cast
    ring
  rw [FNum.value, mul_assoc, hratio, truncToward0]
  cases neg with
  | false => rw [if_neg Bool.false_ne_true, if_neg Bool.false_ne_true, one_mul, one_mul, truncRat_natCast_div]
  | true => rw [if_pos rfl, if_pos rfl, neg_one_mul, neg_one_mul, truncRat_neg, truncRat_natCast_div]

/-- The integer quotient toward zero is the rational one without its fraction (R68). -/
theorem truncRat_intCast_div (x y : Int) : truncRat ((x : ℚ) / y) = x.tdiv y := by
  obtain ⟨n, rfl | rfl⟩ := Int.eq_nat_or_neg x <;> obtain ⟨d, rfl | rfl⟩ := Int.eq_nat_or_neg y <;>
    simp [neg_div, div_neg, truncRat_neg, truncRat_natCast_div, Int.neg_tdiv, Int.tdiv_neg]

theorem divide_eq_answer (pc0 x y : Int) :
    divide pc0 x y = answer (divisionFault pc0 x y) (truncRat (x / y)) := by
  rw [truncRat_intCast_div]
  unfold divide divisionFault
  split_ifs <;> rfl

theorem modulo_eq_answer (pc0 x y : Int) :
    modulo pc0 x y = answer (divisionFault pc0 x y) (x - y * truncRat (x / y)) := by
  rw [truncRat_intCast_div]
  unfold modulo divisionFault
  split_ifs <;> rfl

theorem truncOrFault_eq_answer (pc0 : Int) (x : FVal) :
    truncOrFault pc0 x = answer (conversionFaultOf pc0 x) ((truncI x).getD 0) := by
  unfold truncOrFault conversionFaultOf
  cases truncI x <;> rfl

end Outcomes

/-! ### The statements settled -/

/-- Settles O21: two sources, and the overflow policy on the exact result. -/
theorem addSubMulOutcomes : Obligations.AddSubMulOutcomes := fun _ _ _ s =>
  ⟨intOutcome_two rfl (overflow_addPc_eq_answer s 1 _),
    intOutcome_two rfl (overflow_addPc_eq_answer s 1 _),
    intOutcome_two rfl (overflow_addPc_eq_answer s 1 _)⟩

/-- Settles O22: two sources, and the quotient or remainder with its two faults. -/
theorem divModOutcomes : Obligations.DivModOutcomes := fun _ _ _ _ =>
  ⟨intOutcome_two rfl (divide_eq_answer _ _ _), intOutcome_two rfl (modulo_eq_answer _ _ _)⟩

/-- Settles O24: two sources, or the destination and an immediate, and the power truncated. -/
theorem expOutcomes : Obligations.ExpOutcomes := fun _ _ _ _ _ =>
  ⟨intOutcome_two rfl (truncOrFault_eq_answer _ _), intOutcome_one rfl (truncOrFault_eq_answer _ _)⟩

/-- Settles O30: a finite number's truncation is the rational one, kept where it is an int32. -/
theorem truncationTowardZero : Obligations.TruncationTowardZero := by
  intro pc0 neg m e
  rw [truncRat_value]
  exact ⟨fun hin => by rw [truncOrFault, truncI, if_pos hin],
    fun hout => by rw [truncOrFault, truncI, if_neg hout], rfl, rfl⟩

/-- Settles O5: each word is decoded by evaluation. -/
theorem specExampleWordsDecode : Obligations.SpecExampleWordsDecode := by
  unfold Obligations.SpecExampleWordsDecode
  decide

end Sys2Proof.Machine
end

section
/-! PROOF. Rounding to a format is to nearest with ties to even (00_scope.md R9, 41_int_arith.md R63,
43_float_arith.md R80). A real is first placed: its last place is the exponent at which the format writes
it. Its nearest integer in units of that place, ties to even, is then its nearest number of the format,
because the numbers written at smaller exponents all lie below the leading bit of the place. -/

namespace Sys2Proof.Machine

/-- A format at least as wide as binary32 (R9, R63). -/
structure FloatFormat.CoversBinary32 (f : FloatFormat) : Prop where
  frac : 23 ≤ f.fracBits
  least : f.eMin ≤ -149
  greatest : 104 ≤ f.eMax

theorem binary32_coversBinary32 : binary32.CoversBinary32 := ⟨by decide, by decide, by decide⟩

theorem binary64_coversBinary32 : binary64.CoversBinary32 := ⟨by decide, by decide, by decide⟩

section Rounding

variable {f : FloatFormat} {q x : ℝ} {m m' k : Nat} {e e' d : Int}

/-! ### Powers of two over the reals -/

theorem two_zpow_real_pos (e : Int) : (0 : ℝ) < 2 ^ e := zpow_pos two_pos e

theorem two_zpow_add (a b : Int) : (2 : ℝ) ^ (a + b) = 2 ^ a * 2 ^ b := zpow_add₀ two_ne_zero a b

theorem two_zpow_add_one (e : Int) : (2 : ℝ) ^ (e + 1) = 2 * 2 ^ e := by
  rw [two_zpow_add, zpow_one, mul_comm]

/-- `two_zpow_eq` over the reals. -/
theorem two_zpow_real_eq (e : Int) : (2 : ℝ) ^ e = 2 ^ e.toNat / 2 ^ (-e).toNat := by
  have h := congrArg (Rat.cast : ℚ → ℝ) (two_zpow_eq e)
  push_cast at h
  exact h

theorem mul_two_zpow_real_eq (m : Nat) (d : Int) :
    (m : ℝ) * 2 ^ d = (m * 2 ^ d.toNat : Nat) / (2 ^ (-d).toNat : Nat) := by
  rw [two_zpow_real_eq]
  push_cast
  ring

/-- A power of two in units of a smaller one. -/
theorem two_zpow_eq_natCast_mul (h : d ≤ e) : (2 : ℝ) ^ e = (2 ^ (e - d).toNat : Nat) * 2 ^ d := by
  push_cast
  rw [← zpow_natCast, Int.toNat_of_nonneg (by omega), ← two_zpow_add, sub_add_cancel]

/-! ### The nearest integer -/

/-- `m` is the integer nearest to `x`, the even one of two that are as near. -/
def NearestInt (x : ℝ) (m : Nat) : Prop := |x - m| ≤ 1 / 2 ∧ (|x - m| = 1 / 2 → m % 2 = 0)

/-- What the model's quotient computes is the nearest integer to the ratio. -/
theorem nearestInt_divNearestEven (n : Nat) (hd : 0 < k) :
    NearestInt ((n : ℝ) / k) (divNearestEven n k) := by
  obtain ⟨hupper, hlower, htie⟩ := divNearestEven_spec n k hd
  generalize divNearestEven n k = m at *
  have hk : (0 : ℝ) < k := Nat.cast_pos.mpr hd
  have hn : (n : ℝ) = n / k * k := (div_mul_cancel₀ _ hk.ne').symm
  generalize (n : ℝ) / k = x at *
  have hu : 2 * (x * k) ≤ (2 * m + 1) * k := by rw [← hn]; exact_mod_cast hupper
  have hl : 2 * m * (k : ℝ) ≤ 2 * (x * k) + k := by rw [← hn]; exact_mod_cast hlower
  refine ⟨abs_le.mpr ⟨?_, ?_⟩, fun h => htie ?_⟩
  · nlinarith
  · nlinarith
  · rcases eq_or_eq_neg_of_abs_eq h with h | h
    · have hx : 2 * (x * k) = (2 * m + 1) * k := by rw [sub_eq_iff_eq_add.mp h]; ring
      rw [← hn] at hx
      exact .inl (by exact_mod_cast hx)
    · have hx : 2 * m * (k : ℝ) = 2 * (x * k) + k := by rw [sub_eq_iff_eq_add.mp h]; ring
      rw [← hn] at hx
      exact .inr (by exact_mod_cast hx)

/-- No integer is nearer, and the integer is even where another is as near. -/
theorem NearestInt.nearest (h : NearestInt x m) (k : Nat) :
    |x - m| ≤ |x - k| ∧ (|x - m| = |x - k| → m ≠ k → m % 2 = 0) := by
  obtain ⟨hhalf, heven⟩ := h
  by_cases hk : m = k
  · subst hk
    exact ⟨le_rfl, fun _ hne => absurd rfl hne⟩
  · have hone : (1 : ℝ) ≤ |(m : ℝ) - k| := by
      have : (1 : Int) ≤ |(m : Int) - k| := Int.one_le_abs (by omega)
      exact_mod_cast this
    have htri : |(m : ℝ) - k| ≤ |x - m| + |x - k| := by
      have := abs_sub_le (m : ℝ) x k
      rwa [abs_sub_comm (m : ℝ) x] at this
    exact ⟨by linarith, fun heq _ => heven (by linarith)⟩

theorem NearestInt.le_of_lt (h : NearestInt x m) (hx : x < k) : m ≤ k := by
  obtain ⟨hl, -⟩ := abs_le.mp h.1
  have : (m : ℝ) < (k + 1 : Nat) := by push_cast; linarith
  exact Nat.lt_succ_iff.mp (by exact_mod_cast this)

theorem NearestInt.ge_of_le (h : NearestInt x m) (hx : (k : ℝ) ≤ x) : k ≤ m := by
  obtain ⟨-, hu⟩ := abs_le.mp h.1
  have : (k : ℝ) < (m + 1 : Nat) := by push_cast; linarith
  exact Nat.lt_succ_iff.mp (by exact_mod_cast this)

/-- From half a unit below an even integer on, that integer is nearest. -/
theorem NearestInt.eq_of_sub_half_le (h : NearestInt x m) (hk : k % 2 = 0) (hle : (k : ℝ) - 1 / 2 ≤ x)
    (hlt : x < k) : m = k := by
  by_contra hne
  obtain ⟨hhalf, heven⟩ := h
  have hbelow : m + 1 ≤ k := Nat.lt_of_le_of_ne (NearestInt.le_of_lt ⟨hhalf, heven⟩ hlt) hne
  have hbelow' : (m : ℝ) + 1 ≤ k := by exact_mod_cast hbelow
  obtain ⟨-, hu⟩ := abs_le.mp hhalf
  have hpred : k < m + 2 := by
    have : (k : ℝ) < (m + 2 : Nat) := by push_cast; linarith
    exact_mod_cast this
  have := heven (by rw [abs_of_nonneg (by linarith)]; linarith)
  omega

/-! ### Numbers of a format -/

/-- Every integer of at most `fracBits + 1` bits, and the next power of two, in units of a power of two in the
format's range, is a number of the format. -/
theorem exists_canonical (j : Nat) (d : Int) (hj : j ≤ 2 ^ (f.fracBits + 1)) (hd : f.eMin ≤ d)
    (hd' : d < f.eMax) :
    ∃ m e, Canonical f m e ∧ (m : ℝ) * 2 ^ e = j * 2 ^ d := by
  rcases hj.lt_or_eq with hlt | rfl
  · by_cases hdone : 2 ^ f.fracBits ≤ j ∨ d = f.eMin
    · exact ⟨j, d, ⟨hd, hd'.le, hlt, hdone⟩, rfl⟩
    · push Not at hdone
      obtain ⟨m, e, hc, hv⟩ := exists_canonical (2 * j) (d - 1) (by rw [pow_succ]; omega)
        (by omega) (by omega)
      refine ⟨m, e, hc, hv.trans ?_⟩
      rw [show d = d - 1 + 1 by ring, two_zpow_add_one, add_sub_cancel_right]
      push_cast
      ring
  · refine ⟨2 ^ f.fracBits, d + 1, ⟨by omega, by omega, ?_, .inl le_rfl⟩, ?_⟩
    · exact Nat.pow_lt_pow_right one_lt_two (by omega)
    · rw [two_zpow_add_one]
      push_cast
      ring
termination_by (d - f.eMin).toNat

theorem FloatFormat.CoversBinary32.two_pow_le (hf : f.CoversBinary32) : 16777216 ≤ 2 ^ (f.fracBits + 1) :=
  Nat.pow_le_pow_right (n := 2) two_pos (show 24 ≤ _ by have := hf.frac; omega)

/-- An integer up to 2^24 in units of a power of two in binary32's range is a number of the format. -/
theorem FloatFormat.CoversBinary32.exists_canonical (hf : f.CoversBinary32) (j : Nat) (d : Int)
    (hj : j ≤ 16777216) (hd : -149 ≤ d) (hd' : d < 104) :
    ∃ m e, Canonical f m e ∧ (m : ℝ) * 2 ^ e = j * 2 ^ d :=
  Machine.exists_canonical j d (hj.trans hf.two_pow_le) (hf.least.trans hd) (hd'.trans_le hf.greatest)

/-- The nearest number to `q` is at least every number of the format that `q` is at least. -/
theorem NearestEven.le_of_le (h : NearestEven f q m e) (hc : Canonical f m' e')
    (hle : (m' : ℝ) * 2 ^ e' ≤ q) : (m' : ℝ) * 2 ^ e' ≤ m * 2 ^ e := by
  by_contra! hlt
  have hnear := (h.2 m' e' hc).1
  rw [abs_of_nonneg (by linarith), abs_of_nonneg (by linarith)] at hnear
  linarith

/-- The nearest number to `q` is at most every number of the format that `q` is at most. -/
theorem NearestEven.ge_of_ge (h : NearestEven f q m e) (hc : Canonical f m' e')
    (hle : q ≤ (m' : ℝ) * 2 ^ e') : (m : ℝ) * 2 ^ e ≤ m' * 2 ^ e' := by
  by_contra! hlt
  have hnear := (h.2 m' e' hc).1
  rw [abs_of_nonpos (by linarith), abs_of_nonpos (by linarith)] at hnear
  linarith

/-- The nearest number to a number of the format is that number. -/
theorem NearestEven.eq_of_eq (h : NearestEven f q m e) (hc : Canonical f m' e')
    (heq : q = (m' : ℝ) * 2 ^ e') : (m : ℝ) * 2 ^ e = q :=
  heq ▸ le_antisymm (h.ge_of_ge hc heq.le) (h.le_of_le hc heq.ge)

/-! ### The last place -/

/-- `e` is the exponent of the last place of `q`: there `q` has `fracBits + 1` bits before the point, or
fewer at the least exponent. -/
structure LastPlace (f : FloatFormat) (q : ℝ) (e : Int) : Prop where
  least : f.eMin ≤ e
  lower : (2 : ℝ) ^ (f.fracBits + e) ≤ q ∨ e = f.eMin
  upper : q < 2 ^ (f.fracBits + 1 + e)

/-- In units of its last place a real is below the carry out of the significand. -/
theorem LastPlace.div_lt (h : LastPlace f q e) : q / 2 ^ e < (2 ^ (f.fracBits + 1) : Nat) := by
  rw [div_lt_iff₀ (two_zpow_real_pos e)]
  refine h.upper.trans_eq ?_
  rw [two_zpow_add]
  push_cast
  rw [← zpow_natCast]
  push_cast
  rfl

/-- In units of its last place a real has the leading bit, but at the least exponent. -/
theorem LastPlace.le_div (h : LastPlace f q e) :
    ((2 ^ f.fracBits : Nat) : ℝ) ≤ q / 2 ^ e ∨ e = f.eMin := by
  refine h.lower.imp_left fun hlower => ?_
  rw [le_div_iff₀ (two_zpow_real_pos e)]
  rwa [two_zpow_add, zpow_natCast, ← Nat.cast_ofNat (n := 2), ← Nat.cast_pow] at hlower

/-- A number of the format in units of the last place of `q` is an integer, or it lies below the leading bit
that `q` has. -/
theorem LastPlace.integer_or_below (h : LastPlace f q e) (hc : Canonical f m' e') :
    (∃ k : Nat, (m' : ℝ) * 2 ^ e' = k * 2 ^ e) ∨
      ((m' : ℝ) * 2 ^ e' < (2 ^ f.fracBits : Nat) * 2 ^ e ∧ (2 ^ f.fracBits : Nat) * 2 ^ e ≤ q) := by
  obtain ⟨hmin, -, hm', -⟩ := hc
  rcases le_or_gt e e' with hle | hlt
  · refine .inl ⟨m' * 2 ^ (e' - e).toNat, ?_⟩
    rw [two_zpow_eq_natCast_mul hle]
    push_cast
    ring
  · refine .inr ⟨?_, ?_⟩
    · have hcast : (m' : ℝ) < 2 ^ (f.fracBits + 1) := by exact_mod_cast hm'
      have hstep : (2 : ℝ) ^ e' * 2 ≤ 2 ^ e := by
        rw [mul_comm, ← two_zpow_add_one]
        exact zpow_le_zpow_right₀ one_le_two hlt
      push_cast
      calc (m' : ℝ) * 2 ^ e' < 2 ^ (f.fracBits + 1) * 2 ^ e' :=
            mul_lt_mul_of_pos_right hcast (two_zpow_real_pos _)
        _ = 2 ^ f.fracBits * (2 ^ e' * 2) := by ring
        _ ≤ 2 ^ f.fracBits * 2 ^ e := mul_le_mul_of_nonneg_left hstep (by positivity)
    · exact (le_div_iff₀ (two_zpow_real_pos e)).mp (h.le_div.resolve_right (by omega))

/-- The nearest integer in units of the last place is nearest among the numbers of the format. -/
theorem LastPlace.nearest (h : LastPlace f q e) (hm : NearestInt (q / 2 ^ e) m)
    (hc : Canonical f m' e') :
    |q - m * 2 ^ e| ≤ |q - m' * 2 ^ e'| ∧
      (|q - m * 2 ^ e| = |q - m' * 2 ^ e'| → (m : ℝ) * 2 ^ e ≠ m' * 2 ^ e' → m % 2 = 0) := by
  have hpos := two_zpow_real_pos e
  have hscale : ∀ k : Nat, |q - k * 2 ^ e| = |q / 2 ^ e - k| * 2 ^ e := fun k => by
    rw [← abs_of_pos hpos, ← abs_mul, abs_of_pos hpos, sub_mul, div_mul_cancel₀ _ hpos.ne']
  rcases h.integer_or_below hc with ⟨k, hk⟩ | ⟨hbelow, hlead⟩
  · obtain ⟨hnear, heven⟩ := hm.nearest k
    rw [hk, hscale, hscale]
    refine ⟨mul_le_mul_of_nonneg_right hnear hpos.le, fun heq hne => heven ?_ ?_⟩
    · exact mul_right_cancel₀ hpos.ne' heq
    · rintro rfl
      exact hne rfl
  · have hnear := mul_le_mul_of_nonneg_right (hm.nearest (2 ^ f.fracBits)).1 hpos.le
    rw [← hscale, ← hscale, abs_of_nonneg (sub_nonneg.mpr hlead)] at hnear
    have hfar : |q - m' * 2 ^ e'| = q - m' * 2 ^ e' := abs_of_nonneg (by linarith)
    rw [hfar]
    exact ⟨by linarith, fun heq => by linarith⟩

/-! ### The end of the model's rounding -/

/-- The model's result for the nearest integer `m` at the last place `e`: a carry out of the significand
moves to the next exponent, and an exponent beyond the range gives an infinity. -/
def atLastPlace (f : FloatFormat) (neg : Bool) (m : Nat) (e : Int) : FNum :=
  if m = 2 ^ (f.fracBits + 1) then
    if f.eMax < e + 1 then .inf neg else .fin neg (2 ^ f.fracBits) (e + 1)
  else if f.eMax < e then .inf neg
  else .fin neg m e

/-- What `roundRatio` does, said once: it finds the last place of the ratio and the nearest integer in its
units. -/
theorem roundRatio_eq_atLastPlace (f : FloatFormat) {num den : Nat} (hn : 0 < num) (hd : 0 < den) :
    ∃ m e, LastPlace f (num / den) e ∧ NearestInt (num / den / 2 ^ e) m ∧
      ∀ neg, roundRatio f neg num den = atLastPlace f neg m e := by
  obtain ⟨hlow, hupp⟩ := floorLog2_spec num den hn hd
  rw [← Rat.cast_le (K := ℝ)] at hlow
  rw [← Rat.cast_lt (K := ℝ)] at hupp
  push_cast at hlow hupp
  refine ⟨_, max (floorLog2 num den - f.fracBits) f.eMin, ⟨le_max_right _ _, ?_, ?_⟩, ?_,
    fun neg => if_neg hn.ne'⟩
  · rcases max_choice (floorLog2 num den - f.fracBits) f.eMin with h | h
    · left
      rwa [h, add_sub_cancel]
    · exact .inr h
  · refine hupp.trans_le (zpow_le_zpow_right₀ one_le_two ?_)
    have := le_max_left (floorLog2 num den - f.fracBits) f.eMin
    omega
  · generalize max (floorLog2 num den - f.fracBits) f.eMin = e
    have hratio : (num : ℝ) / den / 2 ^ e =
        (num * 2 ^ (-e).toNat : Nat) / (den * 2 ^ e.toNat : Nat) := by
      rw [two_zpow_real_eq]
      push_cast
      rw [div_div_div_eq]
    rw [hratio]
    exact nearestInt_divNearestEven _ (by positivity)

/-- The overflow threshold in units of the greatest exponent. -/
theorem overflowAt_eq (f : FloatFormat) :
    (f.overflowAt : ℝ) = ((2 ^ (f.fracBits + 1) : Nat) - 1 / 2) * 2 ^ f.eMax := by
  have hstep : (2 : ℝ) ^ f.eMax = 2 * 2 ^ (f.eMax - 1) := by rw [← two_zpow_add_one, sub_add_cancel]
  rw [FloatFormat.overflowAt, hstep]
  push_cast
  ring

theorem two_zpow_le_overflowAt (f : FloatFormat) : (2 : ℝ) ^ (f.fracBits + f.eMax) ≤ f.overflowAt := by
  rw [overflowAt_eq, two_zpow_add]
  refine mul_le_mul_of_nonneg_right ?_ (two_zpow_real_pos _).le
  have := one_le_pow₀ (one_le_two (α := ℝ)) (n := f.fracBits)
  push_cast
  rw [zpow_natCast, pow_succ]
  linarith

theorem FloatFormat.CoversBinary32.lt_overflowAt (hf : f.CoversBinary32) (hq : q < 2 ^ 127) :
    q < f.overflowAt := by
  have hpow : (2 : ℝ) ^ (127 : Int) ≤ 2 ^ (f.fracBits + f.eMax) :=
    zpow_le_zpow_right₀ one_le_two (by have := hf.frac; have := hf.greatest; omega)
  exact hq.trans_le (hpow.trans (two_zpow_le_overflowAt f))

/-- A real below the overflow threshold has its last place in the format's range. -/
theorem LastPlace.le_eMax (h : LastPlace f q e) (hf : f.eMin ≤ f.eMax) (hq : q < f.overflowAt) :
    e ≤ f.eMax := by
  by_contra! hlt
  have hlower := h.lower.resolve_right (by omega)
  have hthreshold : (f.overflowAt : ℝ) < 2 ^ (f.fracBits + 1 + f.eMax) := by
    rw [overflowAt_eq, two_zpow_add]
    refine mul_lt_mul_of_pos_right ?_ (two_zpow_real_pos _)
    push_cast
    rw [← zpow_natCast]
    push_cast
    linarith
  have hpow : (2 : ℝ) ^ (f.fracBits + 1 + f.eMax) ≤ 2 ^ (f.fracBits + e) :=
    zpow_le_zpow_right₀ one_le_two (by omega)
  linarith

/-- A real at or above the overflow threshold has its last place at the greatest exponent or beyond. -/
theorem LastPlace.eMax_le (h : LastPlace f q e) (hq : f.overflowAt ≤ q) : f.eMax ≤ e := by
  by_contra! hlt
  have hpow : (2 : ℝ) ^ (f.fracBits + 1 + e) ≤ 2 ^ (f.fracBits + f.eMax) :=
    zpow_le_zpow_right₀ one_le_two (by omega)
  exact absurd h.upper (hpow.trans ((two_zpow_le_overflowAt f).trans hq)).not_gt

/-- Below the overflow threshold the result is the nearest number of the format. -/
theorem atLastPlace_of_lt (hf : f.CoversBinary32) (h : LastPlace f q e) (hm : NearestInt (q / 2 ^ e) m)
    (hq : q < f.overflowAt) (neg : Bool) :
    ∃ m' e', atLastPlace f neg m e = .fin neg m' e' ∧ NearestEven f q m' e' := by
  have hrange : f.eMin ≤ f.eMax := by have := hf.least; have := hf.greatest; omega
  have hmax := h.le_eMax hrange hq
  have hle : m ≤ 2 ^ (f.fracBits + 1) := hm.le_of_lt h.div_lt
  unfold atLastPlace
  split_ifs with hcarry hover hover
  · -- a carry at the greatest exponent: `q` would be at the threshold
    have heq : e = f.eMax := by omega
    obtain ⟨hl, -⟩ := abs_le.mp hm.1
    have hdiv : q / 2 ^ e < (2 ^ (f.fracBits + 1) : Nat) - 1 / 2 := by
      rw [div_lt_iff₀ (two_zpow_real_pos e), heq, ← overflowAt_eq]
      exact hq
    rw [hcarry] at hl
    linarith
  · have hvalue : ((2 ^ f.fracBits : Nat) : ℝ) * 2 ^ (e + 1) = m * 2 ^ e := by
      rw [hcarry, two_zpow_add_one]
      push_cast
      ring
    have hcanonical : Canonical f (2 ^ f.fracBits) (e + 1) :=
      ⟨by have := h.least; omega, by omega, Nat.pow_lt_pow_right one_lt_two (by omega), .inl le_rfl⟩
    have heven : 2 ^ f.fracBits % 2 = 0 := by
      rw [← Nat.sub_add_cancel (show 1 ≤ f.fracBits by have := hf.frac; omega), pow_succ]
      omega
    refine ⟨_, _, rfl, hcanonical, fun m' e' hc => ?_⟩
    rw [hvalue]
    exact ⟨(h.nearest hm hc).1, fun _ _ => heven⟩
  · omega
  · refine ⟨_, _, rfl, ⟨h.least, by omega, by omega, ?_⟩, fun m' e' => h.nearest hm⟩
    exact h.le_div.imp_left hm.ge_of_le

/-- At or above the overflow threshold the result is an infinity. -/
theorem atLastPlace_of_overflowAt_le (h : LastPlace f q e) (hm : NearestInt (q / 2 ^ e) m)
    (hq : f.overflowAt ≤ q) (neg : Bool) : atLastPlace f neg m e = .inf neg := by
  have hmax := h.eMax_le hq
  unfold atLastPlace
  split_ifs with hcarry hover hover
  · rfl
  · omega
  · rfl
  · -- at the greatest exponent `q` is half a unit or less below the carry, and rounds up to it
    have heq : e = f.eMax := by omega
    have hdiv : (2 ^ (f.fracBits + 1) : Nat) - 1 / 2 ≤ q / 2 ^ e := by
      rw [le_div_iff₀ (two_zpow_real_pos e), heq, ← overflowAt_eq]
      exact hq
    exact absurd (hm.eq_of_sub_half_le (by rw [pow_succ]; omega) hdiv h.div_lt) hcarry

end Rounding

/-- Both formats of `INT_CONV_FMT` are at least as wide as binary32. -/
theorem coversBinary32_of_eq {f : FloatFormat} (h : f = binary32 ∨ f = binary64) : f.CoversBinary32 := by
  obtain rfl | rfl := h
  · exact binary32_coversBinary32
  · exact binary64_coversBinary32

/-- Settles O33: the ratio's nearest integer in units of its last place, on each side of the overflow
threshold. -/
theorem roundingIsNearestEven : Obligations.RoundingIsNearestEven := by
  intro f neg num den hformat hnum hden
  obtain ⟨m, e, hplace, hnearest, hround⟩ := roundRatio_eq_atLastPlace f hnum hden
  rw [hround]
  rw [← Rat.cast_le (K := ℝ), ← Rat.cast_lt (K := ℝ)]
  push_cast
  exact ⟨fun hover => atLastPlace_of_overflowAt_le hplace hnearest hover neg,
    fun hbelow => atLastPlace_of_lt (coversBinary32_of_eq hformat) hplace hnearest hbelow neg⟩

end Sys2Proof.Machine
end

section
/-! PROOF. The square root is correctly rounded (41_int_arith.md R63, 43_float_arith.md R86). The model rounds
the root's integer part to more bits than the format holds, with one further bit that says whether it is
exact. Where it is not, what is rounded and the real root lie strictly between the same two neighbouring
multiples of a power of two that divides half a last place, and so round alike. -/

namespace Sys2Proof.Machine

section Sqrt

variable {f : FloatFormat} {q t : ℝ} {m r : Nat} {e h d : Int}

/-! ### Rounding sees only half last places -/

/-- `q` lies strictly between the neighbouring multiples `r` and `r + 1` of `2^h`. -/
def Between (q : ℝ) (r : Nat) (h : Int) : Prop := r * 2 ^ h < q ∧ q < (r + 1) * 2 ^ h

/-- A multiple of `2^h` is not strictly between two neighbouring ones. -/
theorem le_or_succ_le_mul_two_zpow (r : Nat) (hd : h ≤ d) (c : Int) :
    (c : ℝ) * 2 ^ d ≤ r * 2 ^ h ∨ ((r : ℝ) + 1) * 2 ^ h ≤ c * 2 ^ d := by
  have hpos := two_zpow_real_pos h
  rw [two_zpow_eq_natCast_mul hd, ← mul_assoc]
  rcases le_or_gt (c * (2 ^ (d - h).toNat : Nat)) (r : Int) with hle | hlt
  · exact .inl (mul_le_mul_of_nonneg_right (by exact_mod_cast hle) hpos.le)
  · exact .inr (mul_le_mul_of_nonneg_right (by exact_mod_cast hlt) hpos.le)

theorem Between.lt_of_le (hq : Between q r h) (ht : Between t r h) (hd : h ≤ d) {c : Int}
    (hc : c * 2 ^ d ≤ q) : c * 2 ^ d < t := by
  rcases le_or_succ_le_mul_two_zpow r hd c with hle | hge
  · exact hle.trans_lt ht.1
  · exact absurd hq.2 (hge.trans hc).not_gt

theorem Between.gt_of_ge (hq : Between q r h) (ht : Between t r h) (hd : h ≤ d) {c : Int}
    (hc : q ≤ c * 2 ^ d) : t < c * 2 ^ d := by
  rcases le_or_succ_le_mul_two_zpow r hd c with hle | hge
  · exact absurd hq.1 (hc.trans hle).not_gt
  · exact ht.2.trans_le hge

theorem LastPlace.of_between (hplace : LastPlace f q e) (hq : Between q r h) (ht : Between t r h)
    (hd : h ≤ e) : LastPlace f t e where
  least := hplace.least
  lower := hplace.lower.imp_left fun hlow => by
    simpa using (hq.lt_of_le ht (d := f.fracBits + e) (by omega) (c := 1) (by simpa using hlow)).le
  upper := by
    simpa using hq.gt_of_ge ht (d := f.fracBits + 1 + e) (by omega) (c := 1)
      (by simpa using hplace.upper.le)

/-- Within half a unit of an integer, in half units. -/
theorem abs_div_sub_le_half_iff :
    |q / 2 ^ e - m| ≤ 1 / 2 ↔
      ((2 * m - 1 : Int) : ℝ) * 2 ^ (e - 1) ≤ q ∧ q ≤ ((2 * m + 1 : Int) : ℝ) * 2 ^ (e - 1) := by
  have hpos := two_zpow_real_pos e
  have hhalf : (2 : ℝ) ^ e = 2 * 2 ^ (e - 1) := by rw [← two_zpow_add_one, sub_add_cancel]
  rw [abs_le, le_sub_iff_add_le, le_div_iff₀ hpos, sub_le_iff_le_add, div_le_iff₀ hpos, hhalf]
  push_cast
  constructor <;> rintro ⟨hl, hu⟩ <;> constructor <;> linarith

theorem abs_div_sub_lt_half_iff :
    |q / 2 ^ e - m| < 1 / 2 ↔
      ((2 * m - 1 : Int) : ℝ) * 2 ^ (e - 1) < q ∧ q < ((2 * m + 1 : Int) : ℝ) * 2 ^ (e - 1) := by
  have hpos := two_zpow_real_pos e
  have hhalf : (2 : ℝ) ^ e = 2 * 2 ^ (e - 1) := by rw [← two_zpow_add_one, sub_add_cancel]
  rw [abs_lt, lt_sub_iff_add_lt, lt_div_iff₀ hpos, sub_lt_iff_lt_add, div_lt_iff₀ hpos, hhalf]
  push_cast
  constructor <;> rintro ⟨hl, hu⟩ <;> constructor <;> linarith

/-- No tie can arise: it would be a multiple of `2^h`. -/
theorem NearestInt.of_between (hm : NearestInt (q / 2 ^ e) m) (hq : Between q r h) (ht : Between t r h)
    (hd : h < e) : NearestInt (t / 2 ^ e) m := by
  obtain ⟨hl, hu⟩ := abs_div_sub_le_half_iff.mp hm.1
  have hstrict : |t / 2 ^ e - m| < 1 / 2 := abs_div_sub_lt_half_iff.mpr
    ⟨hq.lt_of_le ht (by omega) hl, hq.gt_of_ge ht (by omega) hu⟩
  exact ⟨hstrict.le, fun htie => absurd htie hstrict.ne⟩

/-! ### The model's square root -/

/-- `roundRatio_eq_atLastPlace` for a significand with an exponent. -/
theorem roundDyadic_eq_atLastPlace (f : FloatFormat) (hm : 0 < m) (d : Int) :
    ∃ k e, LastPlace f (m * 2 ^ d) e ∧ NearestInt (m * 2 ^ d / 2 ^ e) k ∧
      ∀ neg, roundDyadic f neg m d = atLastPlace f neg k e := by
  rw [mul_two_zpow_real_eq]
  exact roundRatio_eq_atLastPlace f (by positivity) (by positivity)

theorem sqrt_eq_isqrt {n : Nat} (h : isqrt n * isqrt n = n) : √n = isqrt n := by
  conv_lhs => rw [← h, Nat.cast_mul]
  exact Real.sqrt_mul_self (Nat.cast_nonneg _)

/-- The real root of a number that is no square is strictly between its integer root and the next integer. -/
theorem isqrt_lt_sqrt {n : Nat} (h : isqrt n * isqrt n ≠ n) : (isqrt n : ℝ) < √n ∧ √n < isqrt n + 1 := by
  obtain ⟨hle, hlt⟩ := isqrt_spec n
  exact ⟨Real.lt_sqrt_of_sq_lt (by exact_mod_cast (sq (isqrt n)).trans_lt (hle.lt_of_ne h)),
    (Real.sqrt_lt' (by positivity)).mpr (by rw [sq]; exact_mod_cast hlt)⟩

theorem sqrt_mul_two_zpow (q : ℝ) (h : Int) : √(q * 2 ^ (2 * h)) = √q * 2 ^ h := by
  rw [two_mul, two_zpow_add, Real.sqrt_mul' _ (mul_self_nonneg _),
    Real.sqrt_mul_self (two_zpow_real_pos h).le]

/-- The last place of a real of at least `fracBits + 2` bits in units of `2^h` is above `2^h`. -/
theorem LastPlace.gt_of_le (hplace : LastPlace f q e) (hq : (2 : ℝ) ^ (f.fracBits + 2 + h) ≤ q) :
    h + 1 < e := by
  have := (zpow_lt_zpow_iff_right₀ (one_lt_two (α := ℝ))).mp (hq.trans_lt hplace.upper)
  omega

/-- The bits the model computes beyond the significand's. -/
theorem two_pow_le_isqrt (hm : 0 < m) {g : Nat} (hg : 2 * f.fracBits + 4 ≤ g) :
    2 ^ (f.fracBits + 2) ≤ isqrt (m * 2 ^ g) := by
  have hbig : 2 ^ (f.fracBits + 2) * 2 ^ (f.fracBits + 2) ≤ m * 2 ^ g := by
    rw [← pow_add]
    exact (Nat.pow_le_pow_right two_pos (by omega)).trans (Nat.le_mul_of_pos_left _ hm)
  exact Nat.lt_succ_iff.mp (Nat.mul_self_lt_mul_self_iff.mp (hbig.trans_lt (isqrt_spec _).2))

/-- A last bit that says "not exact" stands for every real between the two integers it is between, if they
have more bits than the significand. -/
theorem roundDyadic_eq_atLastPlace_of_between (hr : 2 ^ (f.fracBits + 2) ≤ r) (ht : Between t r h) :
    ∃ k e, LastPlace f t e ∧ NearestInt (t / 2 ^ e) k ∧
      ∀ neg, roundDyadic f neg (2 * r + 1) (h - 1) = atLastPlace f neg k e := by
  obtain ⟨k, e, hplace, hnearest, hround⟩ :=
    roundDyadic_eq_atLastPlace f (show 0 < 2 * r + 1 by omega) (h - 1)
  have hmid : ((2 * r + 1 : Nat) : ℝ) * 2 ^ (h - 1) = (r + 1 / 2) * 2 ^ h := by
    rw [show (2 : ℝ) ^ h = 2 * 2 ^ (h - 1) by rw [← two_zpow_add_one, sub_add_cancel]]
    push_cast
    ring
  rw [hmid] at hplace hnearest
  have hpos := two_zpow_real_pos h
  have hq : Between ((r + 1 / 2) * 2 ^ h) r h :=
    ⟨mul_lt_mul_of_pos_right (by linarith) hpos, mul_lt_mul_of_pos_right (by linarith) hpos⟩
  have hbig : (2 : ℝ) ^ (f.fracBits + 2 + h) ≤ (r + 1 / 2) * 2 ^ h := by
    refine le_trans ?_ hq.1.le
    rw [two_zpow_add]
    exact mul_le_mul_of_nonneg_right (by exact_mod_cast hr) hpos.le
  have hlt := hplace.gt_of_le hbig
  exact ⟨k, e, hplace.of_between hq ht (by omega), hnearest.of_between hq ht (by omega), hround⟩

/-- What `sqrtFinite` does, said once: it finds the last place of the real root and the nearest integer in
its units. -/
theorem sqrtFinite_eq_atLastPlace (f : FloatFormat) (hm : 0 < m) (d : Int) :
    ∃ k e, LastPlace f √(m * 2 ^ d) e ∧ NearestInt (√(m * 2 ^ d) / 2 ^ e) k ∧
      sqrtFinite f m d = atLastPlace f false k e := by
  unfold sqrtFinite
  set g : Nat := 2 * f.fracBits + 4 + (d % 2).toNat with hg
  set h : Int := (d - g) / 2 with hh
  have hroot : √((m : ℝ) * 2 ^ d) = √(m * 2 ^ g : Nat) * 2 ^ h := by
    rw [← sqrt_mul_two_zpow, show d = g + 2 * h by omega, two_zpow_add, zpow_natCast, ← mul_assoc]
    push_cast
    rfl
  have hbits : 2 ^ (f.fracBits + 2) ≤ isqrt (m * 2 ^ g) := two_pow_le_isqrt hm (by omega)
  have hpos := two_zpow_real_pos h
  rw [hroot]
  dsimp only
  split_ifs with hexact
  · obtain ⟨k, e, hplace, hnearest, hround⟩ := roundDyadic_eq_atLastPlace f
      (show 0 < 2 * isqrt (m * 2 ^ g) + 0 by have := Nat.two_pow_pos (f.fracBits + 2); omega) (h - 1)
    have hvalue : ((2 * isqrt (m * 2 ^ g) + 0 : Nat) : ℝ) * 2 ^ (h - 1) = √(m * 2 ^ g : Nat) * 2 ^ h := by
      rw [sqrt_eq_isqrt hexact, show h = h - 1 + 1 by ring, two_zpow_add_one, add_sub_cancel_right]
      push_cast
      ring
    rw [hvalue] at hplace hnearest
    exact ⟨k, e, hplace, hnearest, hround false⟩
  · obtain ⟨hlow, hupp⟩ := isqrt_lt_sqrt hexact
    obtain ⟨k, e, hplace, hnearest, hround⟩ := roundDyadic_eq_atLastPlace_of_between hbits
      ⟨mul_lt_mul_of_pos_right hlow hpos, mul_lt_mul_of_pos_right hupp hpos⟩
    exact ⟨k, e, hplace, hnearest, hround false⟩

/-- The square root of a positive number below 2^128 is the nearest number to the real root (R63, R86). -/
theorem sqrtFinite_nearest (hf : f.CoversBinary32) (hm : 0 < m) (hlt : (m : ℝ) * 2 ^ d < 2 ^ 128) :
    ∃ m' e', sqrtFinite f m d = .fin false m' e' ∧ NearestEven f √(m * 2 ^ d) m' e' := by
  obtain ⟨k, e, hplace, hnearest, hround⟩ := sqrtFinite_eq_atLastPlace f hm d
  have hroot : √((m : ℝ) * 2 ^ d) < 2 ^ 64 :=
    (Real.sqrt_lt' (by positivity)).mpr (hlt.trans_eq (by norm_num))
  rw [hround]
  exact atLastPlace_of_lt hf hplace hnearest (hroot.trans (hf.lt_overflowAt (by norm_num))) false

/-! ### The numbers a word reads as -/

/-- A finite number a word reads as is written as the format writes it (R9). -/
theorem canonical_of_asF32 {b : Word} {neg : Bool} (hb : asF32 b = some (.fin neg m e)) :
    Canonical binary32 m e := by
  rw [asF32, unpack_eq, expField_binary32, fracField_binary32] at hb
  have hfrac := Nat.mod_lt b.toNat (show 0 < 8388608 by decide)
  have hexp := Nat.mod_lt (b.toNat / 8388608) (show 0 < 256 by decide)
  have hmin : binary32.eMin = -149 := by decide
  have hmax : binary32.eMax = 104 := by decide
  split_ifs at hb with hspecial _ hzero
  · cases hb
  · cases hb
    exact ⟨by omega, by omega, show _ < 16777216 by omega, .inr rfl⟩
  · cases hb
    have hspecial : b.toNat / 8388608 % 256 ≠ 255 := hspecial
    exact ⟨by omega, by omega, show 8388608 + b.toNat % 8388608 < 16777216 by omega,
      .inl (Nat.le_add_right _ _)⟩

end Sqrt

/-- Settles O36: the word's number is below 2^128, so its root has no overflow. -/
theorem fsqrtIsTheNearestRoot : Obligations.FsqrtIsTheNearestRoot := by
  intro b m e hb hm
  obtain ⟨-, hemax, hmlt, -⟩ := canonical_of_asF32 hb
  have hlt : (m : ℝ) * 2 ^ e < 2 ^ 128 := by
    calc (m : ℝ) * 2 ^ e < 2 ^ 24 * 2 ^ e :=
          mul_lt_mul_of_pos_right (by exact_mod_cast hmlt) (two_zpow_real_pos e)
      _ ≤ 2 ^ 24 * 2 ^ (104 : Int) :=
          mul_le_mul_of_nonneg_left (zpow_le_zpow_right₀ one_le_two hemax) (by positivity)
      _ = 2 ^ 128 := by norm_num
  obtain ⟨m', e', hroot, hnearest⟩ := sqrtFinite_nearest binary32_coversBinary32 (Nat.pos_of_ne_zero hm) hlt
  refine ⟨m', e', ?_, hnearest⟩
  rw [hb, fsqrt, if_neg hm, if_neg Bool.false_ne_true, hroot]

end Sys2Proof.Machine
end

section
/-! PROOF. Integers in a format, and the integer square root (41_int_arith.md R63, R64, R70; 42_int_imm_arith.md
R78). An int32 is finite in either format and an integer of at most `fracBits + 1` bits exact. A root is kept
between two numbers of the format by the rounding, which is monotone. -/

namespace Sys2Proof.Machine

section Integers

variable {f : FloatFormat} {m k : Nat} {n : Int} {e : Int} {neg : Bool}

/-! ### Conversion to a format -/

/-- A positive integer is rounded to the nearest number of the format. -/
theorem roundRatio_natCast_nearest (hf : f.CoversBinary32) (hpos : 0 < k) (hk : k ≤ 2 ^ 32) (neg : Bool) :
    ∃ m e, roundRatio f neg k 1 = .fin neg m e ∧ NearestEven f k m e := by
  obtain ⟨m, e, hplace, hnearest, hround⟩ := roundRatio_eq_atLastPlace f hpos one_pos
  rw [Nat.cast_one, div_one] at hplace hnearest
  have hlt : (k : ℝ) < 2 ^ 127 :=
    lt_of_le_of_lt (by exact_mod_cast hk) (show (2 : ℝ) ^ 32 < 2 ^ 127 by norm_num)
  rw [hround]
  exact atLastPlace_of_lt hf hplace hnearest (hf.lt_overflowAt hlt) neg

/-- An integer of at most `fracBits + 1` bits, or the next power of two, is rounded to itself. -/
theorem roundRatio_natCast_exact (hf : f.CoversBinary32) (hk : k ≤ 2 ^ 32)
    (hbits : k ≤ 2 ^ (f.fracBits + 1)) (neg : Bool) :
    ∃ m e, roundRatio f neg k 1 = .fin neg m e ∧ Canonical f m e ∧ (m : ℝ) * 2 ^ e = k := by
  have := hf.least
  have := hf.greatest
  rcases Nat.eq_zero_or_pos k with rfl | hpos
  · exact ⟨0, f.eMin, rfl, ⟨le_rfl, by omega, Nat.two_pow_pos _, .inr rfl⟩, by simp⟩
  · obtain ⟨m, e, hround, hnearest⟩ := roundRatio_natCast_nearest hf hpos hk neg
    obtain ⟨m', e', hc, hvalue⟩ := exists_canonical (f := f) k 0 hbits (by omega) (by omega)
    rw [zpow_zero, mul_one] at hvalue
    exact ⟨m, e, hround, hnearest.1, hnearest.eq_of_eq hc hvalue.symm⟩

theorem natAbs_le_of_inInt32 (hn : inInt32 n) : n.natAbs ≤ 2 ^ 31 := by
  obtain ⟨hl, hu⟩ := hn
  omega

/-- An int32 that is not zero converts, its sign apart, to the nearest number of the format. -/
theorem toF_nearest (hf : f.CoversBinary32) (hn : inInt32 n) (h0 : n ≠ 0) :
    ∃ m e, toF f n = .fin (decide (n < 0)) m e ∧ NearestEven f n.natAbs m e :=
  roundRatio_natCast_nearest hf (Int.natAbs_pos.mpr h0)
    ((natAbs_le_of_inInt32 hn).trans (by norm_num)) _

theorem toF_exact (hf : f.CoversBinary32) (hn : inInt32 n) (hbits : n.natAbs ≤ 2 ^ (f.fracBits + 1)) :
    ∃ m e, toF f n = .fin (decide (n < 0)) m e ∧ Canonical f m e ∧ (m : ℝ) * 2 ^ e = n.natAbs :=
  roundRatio_natCast_exact hf ((natAbs_le_of_inInt32 hn).trans (by norm_num)) hbits _

/-- The rational value of a number from its real magnitude. -/
theorem value_fin_eq (h : (m : ℝ) * 2 ^ e = k) :
    (FNum.fin neg m e).value = (if neg then -1 else 1) * k := by
  have hrat : (m : ℚ) * 2 ^ e = k := by
    apply Rat.cast_injective (α := ℝ)
    push_cast
    exact h
  rw [FNum.value, mul_assoc, hrat]

theorem sign_mul_natAbs (n : Int) : (if decide (n < 0) then -1 else 1 : ℚ) * n.natAbs = n := by
  rw [Nat.cast_natAbs]
  by_cases hn : n < 0
  · simp [hn, abs_of_neg hn]
  · simp [hn, abs_of_nonneg (not_lt.mp hn)]

theorem toF_value (hf : f.CoversBinary32) (hn : inInt32 n) (hbits : n.natAbs ≤ 2 ^ (f.fracBits + 1)) :
    (toF f n).value = n := by
  obtain ⟨m, e, hround, -, hvalue⟩ := toF_exact hf hn hbits
  rw [hround, value_fin_eq hvalue, sign_mul_natAbs]

/-! ### The square root of an integer -/

/-- A power of two is a number of the format. -/
theorem exists_canonical_two_pow (hf : f.CoversBinary32) (hk : k ≤ 64) :
    ∃ m e, Canonical f m e ∧ (m : ℝ) * 2 ^ e = 2 ^ k := by
  obtain ⟨m, e, hc, hvalue⟩ := hf.exists_canonical 1 k (by norm_num) (by omega) (by omega)
  exact ⟨m, e, hc, hvalue.trans (by rw [Nat.cast_one, one_mul, zpow_natCast])⟩

/-- An integer that is not zero does not convert to zero. -/
theorem pos_of_nearestEven_natCast (hf : f.CoversBinary32) (h : NearestEven f k m e) (hk : 0 < k) :
    0 < m := by
  obtain ⟨m', e', hc, hvalue⟩ := exists_canonical_two_pow hf (Nat.zero_le 64)
  have hone : (1 : ℝ) ≤ m * 2 ^ e := by
    have := h.le_of_le hc (by rw [hvalue, pow_zero]; exact_mod_cast hk)
    rwa [hvalue, pow_zero] at this
  rcases Nat.eq_zero_or_pos m with rfl | hm
  · norm_num at hone
  · exact hm

/-- The root of a positive int32 is the nearest number to the real root of what the integer converts to, and
at most 2^16. -/
theorem fsqrt_toF_of_pos (hf : f.CoversBinary32) (hn : inInt32 n) (hpos : 0 < n) :
    ∃ m e m' e', toF f n = .fin false m e ∧ fsqrt f (some (toF f n)) = some (.fin false m' e') ∧
      NearestEven f √(m * 2 ^ e) m' e' ∧ (m' : ℝ) * 2 ^ e' ≤ 2 ^ 16 := by
  obtain ⟨m, e, hround, hnearest⟩ := toF_nearest hf hn hpos.ne'
  have hm := pos_of_nearestEven_natCast hf hnearest (Int.natAbs_pos.mpr hpos.ne')
  have hbound : (m : ℝ) * 2 ^ e ≤ 2 ^ 31 := by
    obtain ⟨m', e', hc, hvalue⟩ := exists_canonical_two_pow hf (show 31 ≤ 64 by norm_num)
    exact hvalue ▸ hnearest.ge_of_ge hc (hvalue ▸ by exact_mod_cast natAbs_le_of_inInt32 hn)
  obtain ⟨m', e', hsqrt, hroot⟩ := sqrtFinite_nearest hf hm (hbound.trans_lt (by norm_num))
  rw [decide_eq_false hpos.not_gt] at hround
  refine ⟨m, e, m', e', hround, ?_, hroot, ?_⟩
  · rw [hround, fsqrt, if_neg hm.ne', if_neg Bool.false_ne_true, hsqrt]
  · obtain ⟨m'', e'', hc, hvalue⟩ := exists_canonical_two_pow hf (show 16 ≤ 64 by norm_num)
    refine hvalue ▸ hroot.ge_of_ge hc (hvalue ▸ Real.sqrt_le_iff.mpr ⟨by positivity, ?_⟩)
    exact hbound.trans (by norm_num)

/-- A negative integer has no root (R63, R64). -/
theorem fsqrt_toF_of_neg (hf : f.CoversBinary32) (hn : inInt32 n) (hneg : n < 0) :
    fsqrt f (some (toF f n)) = none := by
  obtain ⟨m, e, hround, hnearest⟩ := toF_nearest hf hn hneg.ne
  have hm := pos_of_nearestEven_natCast hf hnearest (Int.natAbs_pos.mpr hneg.ne)
  rw [hround, decide_eq_true hneg, fsqrt, if_neg hm.ne', if_pos rfl]

/-- A number that is not negative and below 2^31 truncates to its floor (R64). -/
theorem truncI_of_lt (h : (m : ℝ) * 2 ^ e < 2 ^ 31) :
    truncI (some (.fin false m e)) = some (⌊(m : ℝ) * 2 ^ e⌋₊ : Int) := by
  have htrunc : truncToward0 false m e = (⌊(m : ℝ) * 2 ^ e⌋₊ : Int) := by
    rw [truncToward0, if_neg Bool.false_ne_true, one_mul, mul_two_zpow_real_eq, Nat.floor_div_eq_div]
  have hfloor : ⌊(m : ℝ) * 2 ^ e⌋₊ < 2147483648 :=
    (Nat.floor_lt (by positivity)).mpr (h.trans_eq (by norm_num))
  rw [truncI, htrunc, if_pos ⟨by omega, by omega⟩]

/-- SQRT of an int32 that is not negative completes. -/
theorem exists_truncI_fsqrt_toF (hf : f.CoversBinary32) (hn : inInt32 n) (h0 : 0 ≤ n) :
    ∃ v, truncI (fsqrt f (some (toF f n))) = some v := by
  rcases h0.eq_or_lt with rfl | hpos
  · have hzero : fsqrt f (some (toF f 0)) = some (.fin false 0 f.eMin) := rfl
    exact ⟨_, hzero ▸ truncI_of_lt (by norm_num)⟩
  · obtain ⟨-, -, m', e', -, hsqrt, -, hle⟩ := fsqrt_toF_of_pos hf hn hpos
    exact ⟨_, hsqrt ▸ truncI_of_lt (hle.trans_lt (by norm_num))⟩

/-- SQRT's operation as an answer: its only fault is a negative operand's (R70). -/
theorem intSqrt_eq_answer (hf : f.CoversBinary32) (hn : inInt32 n) (pc0 : Int) :
    intSqrt f pc0 n = answer (if n < 0 then some ⟨.conversionFault, pc0⟩ else none)
      ((truncI (fsqrt f (some (toF f n)))).getD 0) := by
  rw [intSqrt, truncOrFault_eq_answer, conversionFaultOf]
  split_ifs with hneg
  · rw [fsqrt_toF_of_neg hf hn hneg]
    rfl
  · obtain ⟨v, hv⟩ := exists_truncI_fsqrt_toF hf hn (not_lt.mp hneg)
    rw [hv]

/-! ### The floor of the root -/

theorem natSqrt_le_of_le (hk : k ≤ 16777216) : Nat.sqrt k ≤ 4096 :=
  (Nat.sqrt_le_sqrt hk).trans_eq (Nat.sqrt_eq 4096)

theorem exists_canonical_natSqrt (hf : f.CoversBinary32) (hk : k ≤ 16777216) :
    ∃ m e, Canonical f m e ∧ (m : ℝ) * 2 ^ e = Nat.sqrt k := by
  obtain ⟨m, e, hc, hvalue⟩ := hf.exists_canonical (Nat.sqrt k) 0
    ((natSqrt_le_of_le hk).trans (by norm_num)) (by norm_num) (by norm_num)
  exact ⟨m, e, hc, by rw [hvalue, zpow_zero, mul_one]⟩

/-- Where `k` is no square its root is so far below the next integer that the number 2^-12 below that integer
is nearer. -/
theorem NearestEven.lt_natSqrt_succ (hf : f.CoversBinary32) (h : NearestEven f √k m e)
    (hk : k ≤ 16777216) (hsquare : Nat.sqrt k * Nat.sqrt k ≠ k) : (m : ℝ) * 2 ^ e < Nat.sqrt k + 1 := by
  set r := Nat.sqrt k with hr
  have hsucc : r + 1 ≤ 4096 := by
    by_contra! hlt
    have := (Nat.mul_self_le_mul_self (show 4096 ≤ r by omega)).trans_lt ((Nat.sqrt_le k).lt_of_ne hsquare)
    omega
  obtain ⟨m', e', hc, hbelow⟩ := hf.exists_canonical ((r + 1) * 4096 - 1) (-12) (by omega)
    (by norm_num) (by norm_num)
  have hbelow : (m' : ℝ) * 2 ^ e' = r + 1 - 1 / 4096 := by
    rw [hbelow, Nat.cast_sub (by omega)]
    push_cast
    norm_num
    ring
  have hroot : √(k : ℝ) ^ 2 + 1 ≤ ((r : ℝ) + 1) ^ 2 := by
    rw [Real.sq_sqrt (Nat.cast_nonneg k), sq]
    exact_mod_cast Nat.lt_succ_sqrt k
  by_contra! hge
  rcases le_total √(k : ℝ) (r + 1 - 1 / 4096) with hle | hle
  · have := h.ge_of_ge hc (hle.trans_eq hbelow.symm)
    linarith
  · have hlt : √(k : ℝ) < r + 1 := Real.real_sqrt_lt_nat_sqrt_succ
    have hnear := (h.2 m' e' hc).1
    rw [hbelow, abs_of_nonpos (by linarith), abs_of_nonneg (by linarith)] at hnear
    have hcast : (r : ℝ) + 1 ≤ 4096 := by exact_mod_cast hsucc
    nlinarith

/-- The floor of the nearest number to the root of `k ≤ 2^24` is the floor of the root. -/
theorem NearestEven.floor_eq_natSqrt (hf : f.CoversBinary32) (h : NearestEven f √k m e)
    (hk : k ≤ 16777216) : ⌊(m : ℝ) * 2 ^ e⌋₊ = Nat.sqrt k := by
  obtain ⟨m', e', hc, hvalue⟩ := exists_canonical_natSqrt hf hk
  by_cases hsquare : Nat.sqrt k * Nat.sqrt k = k
  · have hroot : √(k : ℝ) = Nat.sqrt k := by
      conv_lhs => rw [← hsquare, Nat.cast_mul]
      exact Real.sqrt_mul_self (Nat.cast_nonneg _)
    rw [h.eq_of_eq hc (hroot.trans hvalue.symm), hroot, Nat.floor_natCast]
  · rw [Nat.floor_eq_iff (by positivity)]
    exact ⟨hvalue ▸ h.le_of_le hc (hvalue ▸ Real.nat_sqrt_le_real_sqrt), h.lt_natSqrt_succ hf hk hsquare⟩

end Integers

theorem convFormat_coversBinary32 (s : State) : s.convFormat.CoversBinary32 := by
  unfold State.convFormat
  cases s.cfg.intConvFmt with
  | binary32 => exact binary32_coversBinary32
  | binary64 => exact binary64_coversBinary32

/-! ### The statements settled -/

/-- Settles O29: an int32 has at most 32 bits, of binary64's 53; up to 2^24 it has binary32's 24. -/
theorem integersConvertExactly : Obligations.IntegersConvertExactly := by
  refine fun n => ⟨fun hn => ?_, fun hn => ?_⟩
  · exact toF_value binary64_coversBinary32 hn ((natAbs_le_of_inInt32 hn).trans (by decide))
  · exact toF_value binary32_coversBinary32 ⟨by omega, by omega⟩ hn

/-- Settles O23: the root of the operand or the immediate, which is not negative. -/
theorem sqrtOutcomes : Obligations.SqrtOutcomes := by
  intro a b u s hu
  have hf := convFormat_coversBinary32 s
  have himm : inInt32 u := ⟨by omega, by omega⟩
  refine ⟨⟨_, fun h0 => ?_, intOutcome_one rfl (intSqrt_eq_answer hf (int32_inInt32 _) _)⟩, ?_⟩
  · obtain ⟨v, hv⟩ := exists_truncI_fsqrt_toF hf (int32_inInt32 (s.reg b)) h0
    rw [hv]
    rfl
  · obtain ⟨v, hv⟩ := exists_truncI_fsqrt_toF hf himm (Int.natCast_nonneg u)
    refine ⟨v, hv, intOutcome_nil rfl ?_⟩
    have hanswer := intSqrt_eq_answer hf himm (int32 s.pc)
    rw [if_neg (Int.natCast_nonneg u).not_gt, hv] at hanswer
    exact congrArg ((s.addPc 1).writeResult a) hanswer

/-- Settles O27: up to 2^24 the operand converts exactly, and its rounded root lies between the floor of the
exact root and the next integer. -/
theorem integerSqrtIsFloorRoot : Obligations.IntegerSqrtIsFloorRoot := by
  intro fmt n hn f
  have hf : f.CoversBinary32 := by
    cases fmt with
    | binary32 => exact binary32_coversBinary32
    | binary64 => exact binary64_coversBinary32
  rcases Nat.eq_zero_or_pos n with rfl | hpos
  · have hzero : fsqrt f (some (toF f (0 : Nat))) = some (.fin false 0 f.eMin) := rfl
    rw [hzero, truncI_of_lt (by norm_num)]
    norm_num
  · have hint : inInt32 n := ⟨by omega, by omega⟩
    obtain ⟨m, e, m', e', hround, hsqrt, hnearest, hle⟩ := fsqrt_toF_of_pos hf hint (by omega)
    obtain ⟨m₁, e₁, hround₁, -, hexact⟩ := toF_exact hf hint (hn.trans hf.two_pow_le)
    obtain ⟨-, rfl, rfl⟩ := FNum.fin.inj (hround.symm.trans hround₁)
    rw [hexact, Int.natAbs_natCast] at hnearest
    rw [hsqrt, truncI_of_lt (hle.trans_lt (by norm_num)), hnearest.floor_eq_natSqrt hf hn]

end Sys2Proof.Machine
end

section
/-! PROOF. EXP and EXPIMM on small integers (41_int_arith.md R71, 42_int_imm_arith.md R79, 92_eei_decisions.md
D7): both operands convert exactly, the power function reads the integers back, and the exact power is a
number of the format, which is where `FPOW_EXACT_INT` pins the result. -/

namespace Sys2Proof.Machine

section Exp

variable {f : FloatFormat} {m k : Nat} {a b : Int} {e : Int} {neg : Bool} {x y : FNum}

/-! ### Numbers with an integer value -/

theorem truncRat_intCast (a : Int) : truncRat (a : ℚ) = a := by
  simpa using truncRat_intCast_div a 1

/-- A magnitude that is an integer, said without division. -/
theorem mul_two_pow_eq_iff : (m : ℚ) * 2 ^ e = k ↔ m * 2 ^ e.toNat = k * 2 ^ (-e).toNat := by
  rw [two_zpow_eq, ← mul_div_assoc, div_eq_iff (by positivity)]
  exact_mod_cast Iff.rfl

theorem magnitude_of_value (h : (FNum.fin neg m e).value = a) : (m : ℚ) * 2 ^ e = a.natAbs := by
  have hnonneg : (0 : ℚ) ≤ m * 2 ^ e := by positivity
  rw [Nat.cast_natAbs, Int.cast_abs, ← h, FNum.value, mul_assoc, abs_mul, abs_of_nonneg hnonneg]
  cases neg <;> simp

/-- A finite number whose value is an integer is read as that integer (D7). -/
theorem toInt?_of_value (h : (FNum.fin neg m e).value = a) : (FNum.fin neg m e).toInt? = some a := by
  have hmul := mul_two_pow_eq_iff.mp (magnitude_of_value h)
  rw [FNum.toInt?, hmul, Nat.mul_mod_left, if_pos rfl, ← truncRat_value, h, truncRat_intCast]

/-- A finite number whose value is an int32 truncates to it (R64). -/
theorem truncI_of_value (h : (FNum.fin neg m e).value = a) (ha : inInt32 a) :
    truncI (some (.fin neg m e)) = some a := by
  rw [truncI, ← truncRat_value, h, truncRat_intCast, if_pos ha]

/-! ### The exact power -/

/-- `exactRatio` finds an integer that is a number of the format. -/
theorem exactRatio_natCast (hf : f.CoversBinary32) (hk : k ≤ 16777216) (neg : Bool) :
    ∃ m e, exactRatio f neg k 1 = some (.fin neg m e) ∧
      (FNum.fin neg m e).value = (if neg then -1 else 1) * k := by
  obtain ⟨m, e, hround, -, hvalue⟩ :=
    roundRatio_natCast_exact hf (hk.trans (by norm_num)) (hk.trans hf.two_pow_le) neg
  have hmul : m * 2 ^ e.toNat = k * 2 ^ (-e).toNat := by
    refine mul_two_pow_eq_iff.mp (Rat.cast_injective (α := ℝ) ?_)
    push_cast
    exact hvalue
  refine ⟨m, e, ?_, value_fin_eq hvalue⟩
  rw [exactRatio, hround]
  exact if_pos (by rw [mul_one, hmul])

/-- The sign of a power of an integer. -/
theorem sign_mul_natAbs_pow (a : Int) (k : Nat) :
    (if decide (a < 0) && decide ((k : Int) % 2 = 1) then -1 else 1 : ℚ) * (a.natAbs ^ k : Nat) = a ^ k := by
  have hsign : (if decide (a < 0) && decide ((k : Int) % 2 = 1) then -1 else 1 : ℚ) =
      (if decide (a < 0) then -1 else 1) ^ k := by
    rcases Nat.even_or_odd k with hk | hk
    · have hmod : ¬ (k : Int) % 2 = 1 := by have := Nat.even_iff.mp hk; omega
      by_cases ha : a < 0 <;> simp [ha, hmod, hk.neg_one_pow]
    · have hmod : (k : Int) % 2 = 1 := by have := Nat.odd_iff.mp hk; omega
      by_cases ha : a < 0 <;> simp [ha, hmod, hk.neg_one_pow]
  rw [hsign, Nat.cast_pow, ← mul_pow, sign_mul_natAbs]

/-- The exponent check of `exactPow` lets every power up to 2^24 through. -/
theorem log2_mul_le (h : (a ^ k).natAbs ≤ 16777216) (ha : a ≠ 0) : a.natAbs.log2 * k ≤ 24 := by
  have hpow : 2 ^ (a.natAbs.log2 * k) ≤ 2 ^ 24 := by
    rw [pow_mul]
    exact (Nat.pow_le_pow_left (Nat.log2_self_le (Int.natAbs_ne_zero.mpr ha)) k).trans
      (by rwa [← Int.natAbs_pow])
  exact (Nat.pow_le_pow_iff_right one_lt_two).mp hpow

theorem exactPow_natCast (hf : f.CoversBinary32) (ha : a ≠ 0) (h : (a ^ k).natAbs ≤ 16777216) :
    ∃ m e, exactPow f a k = some (.fin (decide (a < 0) && decide ((k : Int) % 2 = 1)) m e) ∧
      (FNum.fin (decide (a < 0) && decide ((k : Int) % 2 = 1)) m e).value = (a ^ k : Int) := by
  obtain ⟨m, e, hratio, hvalue⟩ := exactRatio_natCast hf h
    (decide (a < 0) && decide ((k : Int) % 2 = 1))
  rw [Int.natAbs_pow] at hratio hvalue
  refine ⟨m, e, ?_, by rw [hvalue, sign_mul_natAbs_pow, Int.cast_pow]⟩
  rw [← hratio, exactPow, Int.natAbs_natCast]
  split_ifs with hone hlarge
  · rw [hone, one_pow]
  · have := log2_mul_le h ha
    have := hf.least
    rw [FloatFormat.eMin] at this
    omega
  · rfl
  · omega

/-- The power function on two integers whose exact power is up to 2^24, whatever it does elsewhere. -/
theorem truncI_fpow (hf : f.CoversBinary32) (free : Nat) (hx : x.toInt? = some a)
    (hy : y.toInt? = some (k : Int)) (h0 : a ≠ 0 ∨ k ≠ 0) (h : (a ^ k).natAbs ≤ 16777216) :
    truncI (fpow f free (some x) (some y)) = some (a ^ k) := by
  rw [fpow, hx, hy]
  dsimp only
  split_ifs with ha hk hk
  · rw [ha, zero_pow (by omega)]
    exact truncI_of_value (by simp [FNum.value]) (by decide)
  · omega
  · omega
  · obtain ⟨m, e, hpow, hvalue⟩ := exactPow_natCast hf ha h
    rw [hpow]
    exact truncI_of_value hvalue ⟨by omega, by omega⟩

/-! ### The bits of a number -/

/-- The fields of a binary32 pattern put together from its fields (R9). -/
theorem unpack_binary32_of_fields {ex frac : Nat} (hex : ex < 255) (hfrac : frac < 8388608) (neg : Bool) :
    unpack binary32 (binary32.signWeight neg + (ex * 8388608 + frac)) =
      if ex = 0 then some (.fin neg frac binary32.eMin)
      else some (.fin neg (8388608 + frac) (binary32.eMin + ex - 1)) := by
  have hsign : signBit binary32 (binary32.signWeight neg + (ex * 8388608 + frac)) = neg := by
    have hdiv : (binary32.signWeight neg + (ex * 8388608 + frac)) / 2147483648 = if neg then 1 else 0 := by
      rw [signWeight_binary32]
      split <;> omega
    show ((binary32.signWeight neg + (ex * 8388608 + frac)) / 2147483648 % 2 == 1) = neg
    rw [hdiv]
    cases neg <;> rfl
  have hexp : binary32.expField (binary32.signWeight neg + (ex * 8388608 + frac)) = ex := by
    rw [expField_binary32, signWeight_binary32]
    split <;> omega
  have hfield : binary32.fracField (binary32.signWeight neg + (ex * 8388608 + frac)) = frac := by
    rw [fracField_binary32, signWeight_binary32]
    split <;> omega
  rw [unpack_eq, hsign, hexp, hfield]
  exact if_neg (show ex ≠ 255 by omega)

theorem asF32_bitsF32_of_pack {ex frac : Nat} (hex : ex < 255) (hfrac : frac < 8388608)
    (hpack : pack binary32 x = binary32.signWeight neg + (ex * 8388608 + frac)) :
    asF32 (bitsF32 x) = if ex = 0 then some (.fin neg frac binary32.eMin)
      else some (.fin neg (8388608 + frac) (binary32.eMin + ex - 1)) := by
  have hlt : binary32.signWeight neg + (ex * 8388608 + frac) < 2 ^ 32 := by
    rw [signWeight_binary32]
    split <;> omega
  rw [asF32, bitsF32, BitVec.toNat_ofNat, hpack, Nat.mod_eq_of_lt hlt, unpack_binary32_of_fields hex hfrac]

/-- The word of a number the format writes reads as that number (R9). -/
theorem asF32_bitsF32 (h : Canonical binary32 m e) (neg : Bool) :
    asF32 (bitsF32 (.fin neg m e)) = some (.fin neg m e) := by
  obtain ⟨hmin, hmax, hm, hlead⟩ := h
  rcases lt_or_ge m 8388608 with hsub | hnormal
  · obtain rfl : e = binary32.eMin := hlead.resolve_left (Nat.not_le.mpr hsub)
    have hpack : pack binary32 (.fin neg m binary32.eMin) = binary32.signWeight neg + (0 * 8388608 + m) := by
      rw [pack_subnormal binary32 neg _ hsub, zero_mul, zero_add]
    rw [asF32_bitsF32_of_pack (by norm_num) hsub hpack, if_pos rfl]
  · obtain ⟨frac, rfl⟩ := Nat.exists_eq_add_of_le hnormal
    obtain ⟨ex, hex⟩ := Int.eq_ofNat_of_zero_le (show 0 ≤ e - binary32.eMin + 1 by omega)
    obtain rfl : e = binary32.eMin + ex - 1 := by omega
    have hmin' : binary32.eMin = -149 := rfl
    have hmax' : binary32.eMax = 104 := rfl
    have hm' : 8388608 + frac < 16777216 := hm
    have hpack : pack binary32 (.fin neg (8388608 + frac) (binary32.eMin + ex - 1)) =
        binary32.signWeight neg + (ex * 8388608 + frac) := pack_normal binary32 neg ex frac
    rw [asF32_bitsF32_of_pack (by omega) (by omega) hpack, if_neg (by omega)]

/-! ### The operands of EXP -/

theorem toInt?_toF (hf : f.CoversBinary32) (ha : a.natAbs ≤ 16777216) : (toF f a).toInt? = some a := by
  have hin : inInt32 a := ⟨by omega, by omega⟩
  have hvalue := toF_value hf hin (ha.trans hf.two_pow_le)
  obtain ⟨m, e, hround, -, -⟩ := toF_exact hf hin (ha.trans hf.two_pow_le)
  rw [hround] at hvalue ⊢
  exact toInt?_of_value hvalue

theorem asF32_bitsF32_toF (ha : a.natAbs ≤ 16777216) :
    asF32 (bitsF32 (toF binary32 a)) = some (toF binary32 a) := by
  obtain ⟨m, e, hround, hc, -⟩ := toF_exact binary32_coversBinary32 ⟨by omega, by omega⟩ ha
  rw [hround, asF32_bitsF32 hc]

/-- The power of an integer up to 2^24 by one up to 2^24, in the format `INT_CONV_FMT`. -/
theorem truncI_intPow (fmt : ConvFmt) (ha : a.natAbs ≤ 16777216) (hk : k ≤ 16777216)
    (h0 : a ≠ 0 ∨ k ≠ 0) (h : (a ^ k).natAbs ≤ 16777216) : truncI (intPow fmt a k) = some (a ^ k) := by
  have hk : (k : Int).natAbs ≤ 16777216 := hk
  cases fmt with
  | binary32 =>
    rw [intPow, fpow32, asF32_bitsF32_toF ha, asF32_bitsF32_toF hk]
    exact truncI_fpow binary32_coversBinary32 _ (toInt?_toF binary32_coversBinary32 ha)
      (toInt?_toF binary32_coversBinary32 hk) h0 h
  | binary64 =>
    exact truncI_fpow binary64_coversBinary32 _ (toInt?_toF binary64_coversBinary32 ha)
      (toInt?_toF binary64_coversBinary32 hk) h0 h

/-- An instruction with these outcomes, its registers in range and no arithmetic fault writes its value. -/
theorem IntOutcome.exec_eq {i : Instr} {srcs : List Nat} {n : Nat} {s : State} {bad : Option Trap} {v : Int}
    (h : IntOutcome i srcs n s bad v) (hsrcs : ∀ r ∈ srcs, s.hasReg r) (hbad : bad = none)
    (hn : s.hasReg n) : exec i s = .next (s.advanced.putReg n (wrap32 v)) :=
  (h.2 hsrcs).1 hbad hn

theorem conversionFaultOf_eq_none {v : FVal} {pc0 : Int} (h : truncI v = some a) :
    conversionFaultOf pc0 v = none := by
  rw [conversionFaultOf, h]

end Exp

/-- Settles O28: the outcomes of EXP and EXPIMM, with the exact power for the value. -/
theorem expIsExactOnSmallIntegers : Obligations.ExpIsExactOnSmallIntegers := by
  refine fun a b c u s ha => ⟨fun hb hc hx hy0 hy hzero hpow => ?_, fun hx hu hzero hpow => ?_⟩
  · have hpower := truncI_intPow s.cfg.intConvFmt hx (show (int32 (s.reg c)).toNat ≤ 16777216 by omega)
      (by omega) hpow
    rw [Int.toNat_of_nonneg hy0] at hpower
    have hexec := (expOutcomes a b c u s).1.exec_eq
      (List.forall_mem_cons.mpr ⟨hb, List.forall_mem_singleton.mpr hc⟩)
      (conversionFaultOf_eq_none hpower) ha
    rwa [hpower] at hexec
  · have hpower := truncI_intPow s.cfg.intConvFmt hx (show u ≤ 16777216 by omega) hzero hpow
    have hexec := (expOutcomes a b c u s).2.exec_eq (List.forall_mem_singleton.mpr ha)
      (conversionFaultOf_eq_none hpower) ha
    rwa [hpower] at hexec

end Sys2Proof.Machine
end

section
/-! PROOF. The outcomes of the immediate instructions (42_int_imm_arith.md R72 to R77). Their one source is
the destination, and the immediate is a non-negative integer, so no division by it can overflow. -/

namespace Sys2Proof.Machine

/-- `DivideOverflow` takes a divisor of -1, which no immediate is (R72, R76). -/
theorem divisionFault_natCast (pc0 x : Int) (u : Nat) :
    divisionFault pc0 x u = if u = 0 then some ⟨.divideByZero, pc0⟩ else none := by
  have hneg : ¬ (x = -2147483648 ∧ (u : Int) = -1) := fun h => absurd h.2 (by omega)
  rw [divisionFault, if_neg hneg]
  simp only [Int.natCast_eq_zero]

theorem divide_natCast_eq_answer (pc0 x : Int) (u : Nat) :
    divide pc0 x u =
      answer (if u = 0 then some ⟨.divideByZero, pc0⟩ else none) (truncRat (x / u)) := by
  rw [divide_eq_answer, divisionFault_natCast, Int.cast_natCast]

theorem modulo_natCast_eq_answer (pc0 x : Int) (u : Nat) :
    modulo pc0 x u =
      answer (if u = 0 then some ⟨.divideByZero, pc0⟩ else none) (x - u * truncRat (x / u)) := by
  rw [modulo_eq_answer, divisionFault_natCast, Int.cast_natCast]

/-! ### The statements settled -/

/-- Settles O25: the destination is the source, and the overflow policy sees the exact result. -/
theorem addSubMulImmOutcomes : Obligations.AddSubMulImmOutcomes := fun _ _ s =>
  ⟨intOutcome_one rfl (overflow_addPc_eq_answer s 1 _),
    intOutcome_one rfl (overflow_addPc_eq_answer s 1 _),
    intOutcome_one rfl (overflow_addPc_eq_answer s 1 _)⟩

/-- Settles O26: division by the immediate, which a zero immediate alone makes fault. -/
theorem divModImmOutcomes : Obligations.DivModImmOutcomes := fun _ _ _ =>
  ⟨intOutcome_one rfl (divide_natCast_eq_answer _ _ _), intOutcome_one rfl (modulo_natCast_eq_answer _ _ _)⟩

end Sys2Proof.Machine
end

section
/-! PROOF. The float instructions (43_float_arith.md R80 to R87). Every result of a float operation is a number
that the format writes, so that the word stored for it reads as the result. The outcomes of an instruction
with one or two float sources follow once for any operation. Before them, the results on NaNs, infinities and
zeros. -/

namespace Sys2Proof.Machine

section FloatResults

variable {f : FloatFormat} {x : FVal} {den m : Nat}

/-! ### NaNs, infinities and zeros -/

theorem fadd_none_right (f : FloatFormat) (x : FVal) : fadd f x none = none := by
  rcases x with _ | _ | _ <;> rfl

theorem fmul_none_right (f : FloatFormat) (x : FVal) : fmul f x none = none := by
  rcases x with _ | _ | _ <;> rfl

theorem fdiv_none_right (f : FloatFormat) (x : FVal) : fdiv f x none = none := by
  rcases x with _ | _ | _ <;> rfl

theorem fmod_none_right (f : FloatFormat) (x : FVal) : fmod f x none = none := by
  rcases x with _ | _ | _ <;> rfl

theorem fadd_inf_self (f : FloatFormat) (s : Bool) :
    fadd f (some (.inf s)) (some (.inf s)) = some (.inf s) := if_pos rfl

theorem fadd_inf_of_ne (f : FloatFormat) {s t : Bool} (h : s ≠ t) :
    fadd f (some (.inf s)) (some (.inf t)) = none := if_neg h

/-- A difference is the sum with the second operand negated (R82). -/
theorem fsub_eq_fadd (f : FloatFormat) (x y : FVal) : fsub f x y = fadd f x (fneg y) := rfl

theorem fneg_inf (s : Bool) : fneg (some (.inf s)) = some (.inf !s) := rfl

/-- Infinities of one sign have no difference (R82). -/
theorem fsub_inf_self (f : FloatFormat) (s : Bool) : fsub f (some (.inf s)) (some (.inf s)) = none := by
  rw [fsub_eq_fadd, fneg_inf, fadd_inf_of_ne f (Bool.not_ne_self s).symm]

theorem fsub_inf_of_ne (f : FloatFormat) {s t : Bool} (h : s ≠ t) :
    fsub f (some (.inf s)) (some (.inf t)) = some (.inf s) := by
  rw [fsub_eq_fadd, fneg_inf, ← Bool.eq_not.mpr h, fadd_inf_self]

/-- The square root of a negative number that is not zero is a NaN (R86). -/
theorem fsqrt_of_neg (f : FloatFormat) (e : Int) (hm : m ≠ 0) : fsqrt f (some (.fin true m e)) = none := by
  rw [fsqrt, if_neg hm, if_pos rfl]

/-! ### Numbers the format writes -/

/-- A NaN, an infinity, or a finite number as the format writes it. -/
def InFormat (f : FloatFormat) : FVal → Prop
  | none => True
  | some (.inf _) => True
  | some (.fin _ m e) => Canonical f m e

theorem FloatFormat.CoversBinary32.eMin_le_eMax (hf : f.CoversBinary32) : f.eMin ≤ f.eMax := by
  have := hf.least
  have := hf.greatest
  omega

theorem inFormat_zero (hf : f.CoversBinary32) (neg : Bool) : InFormat f (some (.fin neg 0 f.eMin)) :=
  ⟨le_rfl, hf.eMin_le_eMax, Nat.two_pow_pos _, .inr rfl⟩

/-- Rounding gives a number of the format (R80). -/
theorem inFormat_roundRatio (hf : f.CoversBinary32) (hden : 0 < den) (neg : Bool) (num : Nat) :
    InFormat f (some (roundRatio f neg num den)) := by
  rcases Nat.eq_zero_or_pos num with rfl | hnum
  · exact inFormat_zero hf neg
  · obtain ⟨m, e, hplace, hnearest, hround⟩ := roundRatio_eq_atLastPlace f hnum hden
    rw [hround]
    rcases le_or_gt (f.overflowAt : ℝ) (num / den) with hover | hbelow
    · rw [atLastPlace_of_overflowAt_le hplace hnearest hover]
      trivial
    · obtain ⟨m', e', hround', hnearest'⟩ := atLastPlace_of_lt hf hplace hnearest hbelow neg
      rw [hround']
      exact hnearest'.1

theorem inFormat_roundDyadic (hf : f.CoversBinary32) (neg : Bool) (m : Nat) (e : Int) :
    InFormat f (some (roundDyadic f neg m e)) :=
  inFormat_roundRatio hf (Nat.two_pow_pos _) neg _

theorem inFormat_fadd (hf : f.CoversBinary32) (x y : FVal) : InFormat f (fadd f x y) := by
  fun_cases fadd f x y
  case case5 =>
    rw [addFinite]
    split_ifs
    · exact inFormat_zero hf _
    · exact inFormat_roundDyadic hf _ _ _
  all_goals trivial

theorem inFormat_fmul (hf : f.CoversBinary32) (x y : FVal) : InFormat f (fmul f x y) := by
  fun_cases fmul f x y
  case case6 => exact inFormat_roundDyadic hf _ _ _
  all_goals trivial

theorem inFormat_fdiv (hf : f.CoversBinary32) (x y : FVal) : InFormat f (fdiv f x y) := by
  fun_cases fdiv f x y
  case case3 => exact inFormat_zero hf _
  case case6 hmb =>
    exact inFormat_roundRatio hf (Nat.mul_pos (Nat.pos_of_ne_zero hmb) (Nat.two_pow_pos _)) _ _
  all_goals trivial

/-- A remainder by an infinity is the dividend itself (R85). -/
theorem inFormat_fmod (hf : f.CoversBinary32) (hx : InFormat f x) (y : FVal) : InFormat f (fmod f x y) := by
  fun_cases fmod f x y
  case case2 => exact hx
  case case4 => exact inFormat_roundDyadic hf _ _ _
  all_goals trivial

theorem inFormat_fsqrt (hf : f.CoversBinary32) (x : FVal) : InFormat f (fsqrt f x) := by
  fun_cases fsqrt f x
  case case4 neg e => exact inFormat_zero hf neg
  case case6 => exact inFormat_roundDyadic hf _ _ _
  all_goals trivial

theorem inFormat_asF32 (w : Word) : InFormat binary32 (asF32 w) := by
  rcases h : asF32 w with _ | _ | ⟨neg, m, e⟩
  · trivial
  · trivial
  · exact canonical_of_asF32 h

/-- The word of a number of the format reads as the number (R9). -/
theorem asF32_bitsF32_of_inFormat {v : FNum} (h : InFormat binary32 (some v)) :
    asF32 (bitsF32 v) = some v := by
  cases v with
  | inf neg => cases neg <;> decide
  | fin neg m e => exact asF32_bitsF32 h neg

theorem inFormat_exactRatio (hf : f.CoversBinary32) (hden : 0 < den) (neg : Bool) (num : Nat) :
    InFormat f (exactRatio f neg num den) := by
  have hround := inFormat_roundRatio hf hden neg num
  rw [exactRatio]
  cases h : roundRatio f neg num den with
  | inf s => trivial
  | fin s m e =>
    dsimp only
    split_ifs
    · exact h ▸ hround
    · trivial

theorem inFormat_exactPow (hf : f.CoversBinary32) {a : Int} (ha : a ≠ 0) (b : Int) :
    InFormat f (exactPow f a b) := by
  have hpow : 0 < a.natAbs ^ b.natAbs := Nat.pow_pos (Int.natAbs_pos.mpr ha)
  rw [exactPow]
  split_ifs
  · exact inFormat_exactRatio hf one_pos _ 1
  · trivial
  · exact inFormat_exactRatio hf one_pos _ _
  · exact inFormat_exactRatio hf hpow _ 1

/-- The power is a number of the format if the free pattern reads as one (D7). -/
theorem inFormat_fpow (hf : f.CoversBinary32) {free : Nat} (hfree : InFormat f (unpack f free))
    (x y : FVal) : InFormat f (fpow f free x y) := by
  fun_cases fpow f free x y
  case case1 => exact inFormat_zero hf _
  case case2 => trivial
  case case4 ha r hpow => exact hpow ▸ inFormat_exactPow hf ha _
  all_goals exact hfree

theorem inFormat_fpow32 (a b : Word) : InFormat binary32 (fpow32 a b) :=
  inFormat_fpow binary32_coversBinary32 (inFormat_asF32 _) _ _

end FloatResults

section FloatOutcomes

variable {s : State} {i : Instr} {n a b c : Nat} {srcs : List Nat} {v : FVal}

/-! ### A float destination -/

theorem writeReg_of_hasReg (h : s.hasReg a) (w : Word) :
    s.writeReg a w = .ok (s.setStack (s.stack.write (s.slotOf a) w)) :=
  writeReg_eq_ok.mpr ⟨_, regAddr_of_hasReg h, rfl⟩

theorem writeF32_of_not_hasReg (h : ¬ s.hasReg a) (v : FVal) :
    s.writeF32 a v = .error ⟨.registerOutOfRange, int32 s.bp + a⟩ := by
  cases v <;> simp [State.writeF32, State.writeReg, regAddr_of_not_hasReg h]

/-- A number is written as its bits, and a NaN as a draw, which is a pattern of a NaN (R80). -/
theorem writeF32_of_hasReg (h : s.hasReg a) (hv : InFormat binary32 v) :
    ∃ w draws, s.writeF32 a v = .ok ((s.setStack (s.stack.write (s.slotOf a) w)).setNanDraws draws) ∧
      asF32 w = v ∧ ∀ x, v = some x → w = bitsF32 x := by
  cases v with
  | some x =>
    refine ⟨bitsF32 x, s.nanDraws, writeReg_of_hasReg h _, asF32_bitsF32_of_inFormat hv, fun y hy => ?_⟩
    rw [Option.some.inj hy]
  | none =>
    refine ⟨(Config.nanBits s.nanDraws).word, s.nanDraws + 1, ?_, asF32_nanPattern_word _, nofun⟩
    rw [State.writeF32, writeReg_of_hasReg h]
    rfl

/-! ### From the effect to the outcomes -/

theorem FloatOutcome.cons (hhead : ¬ s.hasReg n → Raises i s .registerOutOfRange (int32 s.bp + n))
    (htail : s.hasReg n → FloatOutcome i srcs a s v) : FloatOutcome i (n :: srcs) a s v :=
  ⟨sourceFaults_cons hhead fun hn => (htail hn).1, fun hall =>
    have ⟨hn, hsrcs⟩ := List.forall_mem_cons.mp hall
    (htail hn).2 hsrcs⟩

/-- An effect that only writes a value to the destination. -/
theorem floatOutcome_nil {e : Int → State → Except Trap State}
    (hexec : exec i s = .next (s.perform e))
    (he : e (int32 s.pc) (s.addPc 1) = (s.addPc 1).writeF32 a v) (hv : InFormat binary32 v) :
    FloatOutcome i [] a s v := by
  refine ⟨sourceFaults_nil, fun _ => ⟨fun ha => ?_, fun ha => ?_⟩⟩
  · exact raises_of_effect hexec (he.trans (writeF32_of_not_hasReg (s := s.addPc 1) ha v))
  · obtain ⟨w, draws, hwrite, hw⟩ := writeF32_of_hasReg (s := s.addPc 1) ha hv
    refine ⟨w, draws, ?_, hw⟩
    rw [hexec, perform_ok (he.trans hwrite)]
    rfl

section Readers

/-! A source is read as a word or as a float; `view` makes the operand of the register's word. -/

variable {α : Type} {read : State → Nat → Except Trap α} {view : Word → α}

/-- A reader takes its operand from the word of the register it checks (R16). -/
def ReadsAs (read : State → Nat → Except Trap α) (view : Word → α) : Prop :=
  ∀ t n, read t n = (t.readReg n).map view

theorem readsAs_readReg : ReadsAs State.readReg id := fun t n => by
  cases t.readReg n <;> rfl

theorem readsAs_readF32 : ReadsAs State.readF32 asF32 := fun t n => by
  rw [State.readF32]
  cases t.readReg n <;> rfl

theorem ReadsAs.of_hasReg (hread : ReadsAs read view) (h : s.hasReg n) :
    read (s.addPc 1) n = .ok (view (s.reg n)) := by
  rw [hread, addPc_readReg, readReg_of_hasReg h]
  rfl

theorem ReadsAs.of_not_hasReg (hread : ReadsAs read view) (h : ¬ s.hasReg n) :
    read (s.addPc 1) n = .error ⟨.registerOutOfRange, int32 s.bp + n⟩ := by
  rw [hread, addPc_readReg, readReg_of_not_hasReg h]
  rfl

/-- The outcomes of a float instruction with one source; `op` is its operation. -/
theorem floatOutcome_one (hread : ReadsAs read view) {op : α → FVal}
    (hexec : exec i s = .next (s.perform fun _ t => do
      let x ← read t b
      t.writeF32 a (op x)))
    (hop : InFormat binary32 (op (view (s.reg b)))) :
    FloatOutcome i [b] a s (op (view (s.reg b))) := by
  refine .cons (fun hb => ?_) fun hb => ?_
  · exact raises_of_effect hexec (by simp [hread.of_not_hasReg hb])
  · exact floatOutcome_nil hexec (by simp [hread.of_hasReg hb]) hop

/-- The outcomes of a float instruction with two sources. -/
theorem floatOutcome_two (hread : ReadsAs read view) {op : α → α → FVal}
    (hexec : exec i s = .next (s.perform fun _ t => do
      let x ← read t b
      let y ← read t c
      t.writeF32 a (op x y)))
    (hop : InFormat binary32 (op (view (s.reg b)) (view (s.reg c)))) :
    FloatOutcome i [b, c] a s (op (view (s.reg b)) (view (s.reg c))) := by
  refine .cons (fun hb => ?_) fun hb => .cons (fun hc => ?_) fun hc => ?_
  · exact raises_of_effect hexec (by simp [hread.of_not_hasReg hb])
  · exact raises_of_effect hexec (by simp [hread.of_hasReg hb, hread.of_not_hasReg hc])
  · exact floatOutcome_nil hexec (by simp [hread.of_hasReg hb, hread.of_hasReg hc]) hop

end Readers

end FloatOutcomes

/-! ### The statements settled -/

/-- Settles O31: two sources, and a result that the format writes. -/
theorem floatBinaryOutcomes : Obligations.FloatBinaryOutcomes := fun _ _ _ _ =>
  have hf := binary32_coversBinary32
  ⟨floatOutcome_two readsAs_readF32 rfl (inFormat_fadd hf _ _),
    floatOutcome_two readsAs_readF32 rfl (inFormat_fadd hf _ _),
    floatOutcome_two readsAs_readF32 rfl (inFormat_fmul hf _ _),
    floatOutcome_two readsAs_readF32 rfl (inFormat_fdiv hf _ _),
    floatOutcome_two readsAs_readF32 rfl (inFormat_fmod hf (inFormat_asF32 _) _),
    floatOutcome_two readsAs_readReg rfl (inFormat_fpow32 _ _)⟩

/-- Settles O32: one source, and a result that the format writes. -/
theorem fsqrtOutcome : Obligations.FsqrtOutcome := fun _ _ _ =>
  floatOutcome_one readsAs_readF32 rfl (inFormat_fsqrt binary32_coversBinary32 _)

/-- Settles O37: each combination is a branch of the operation's definition, taken by evaluation where no
condition stands before it. -/
theorem floatSpecialCases : Obligations.FloatSpecialCases := fun f x s _ _ _ e _ =>
  ⟨⟨rfl, fadd_none_right f x, rfl, fadd_none_right f x, rfl, fmul_none_right f x, rfl, fdiv_none_right f x,
      rfl, fmod_none_right f x, rfl⟩,
    ⟨fadd_inf_self f s, fadd_inf_of_ne f, rfl, rfl⟩,
    ⟨fsub_inf_self f s, fsub_inf_of_ne f, rfl, rfl⟩,
    ⟨rfl, rfl, rfl, fun hn => if_neg hn, fun hm => if_neg hm⟩,
    ⟨rfl, rfl, rfl, rfl, fun hm => if_neg hm⟩,
    ⟨rfl, rfl, rfl, rfl⟩,
    ⟨rfl, rfl, fsqrt_of_neg f e, rfl⟩⟩

end Sys2Proof.Machine
end

section
/-! PROOF. Sums, differences, products and quotients round the exact rational result once (43_float_arith.md
R80 to R84). The model rounds a ratio of integers that it does not reduce; rounding sees only the value of the
ratio, so that it is the rounding of the rational. The operands are integers in units of the smaller
exponent. -/

namespace Sys2Proof.Machine

section Exact

variable {f : FloatFormat} {q : ℝ} {m m' num den num' den' : Nat} {e e' e0 : Int} {neg : Bool}

/-! ### Rounding sees only the value of a ratio -/

theorem LastPlace.ge (h : LastPlace f q e) (h' : LastPlace f q e') : e' ≤ e := by
  rcases h'.lower with hlow | rfl
  · have := (zpow_lt_zpow_iff_right₀ (one_lt_two (α := ℝ))).mp (hlow.trans_lt h.upper)
    omega
  · exact h.least

/-- A real has at most one last place. -/
theorem LastPlace.unique (h : LastPlace f q e) (h' : LastPlace f q e') : e = e' :=
  le_antisymm (h'.ge h) (h.ge h')

/-- The nearest integer, ties to even, is one. -/
theorem NearestInt.unique (h : NearestInt q m) (h' : NearestInt q m') : m = m' := by
  by_contra hne
  obtain ⟨hle, heven⟩ := h.nearest m'
  obtain ⟨hle', heven'⟩ := h'.nearest m
  have htie : |q - m| = |q - m'| := le_antisymm hle hle'
  have hm := heven htie hne
  have hm' := heven' htie.symm (Ne.symm hne)
  have hapart : |(m : ℝ) - m'| ≤ 1 := by
    have htri := abs_sub_le (m : ℝ) q m'
    rw [abs_sub_comm (m : ℝ) q] at htri
    have := h.1
    have := h'.1
    linarith
  have hapart : |(m : Int) - m'| ≤ 1 := by exact_mod_cast hapart
  rw [abs_le] at hapart
  omega

/-- Equal ratios round alike. -/
theorem roundRatio_congr (f : FloatFormat) (neg : Bool) (hden : 0 < den) (hden' : 0 < den')
    (h : (num : ℚ) / den = num' / den') : roundRatio f neg num den = roundRatio f neg num' den' := by
  have hzero : num = 0 ↔ num' = 0 := by
    simpa [hden.ne', hden'.ne'] using congrArg (· = 0) h
  rcases Nat.eq_zero_or_pos num with rfl | hnum
  · rw [hzero.mp rfl, roundRatio, roundRatio, if_pos rfl, if_pos rfl]
  · have hnum' : 0 < num' := Nat.pos_of_ne_zero (mt hzero.mpr hnum.ne')
    obtain ⟨m, e, hplace, hnearest, hround⟩ := roundRatio_eq_atLastPlace f hnum hden
    obtain ⟨m', e', hplace', hnearest', hround'⟩ := roundRatio_eq_atLastPlace f hnum' hden'
    have hreal := congrArg (Rat.cast : ℚ → ℝ) h
    push_cast at hreal
    rw [hreal] at hplace hnearest
    obtain rfl := hplace.unique hplace'
    obtain rfl := hnearest.unique hnearest'
    rw [hround, hround']

/-- The model's rounding of a ratio is the rounding of the rational it is. -/
theorem roundRatio_eq_roundRat (f : FloatFormat) (neg : Bool) (num : Nat) (hden : 0 < den) :
    roundRatio f neg num den = roundRat f neg (num / den) := by
  refine roundRatio_congr f neg hden (Rat.den_pos _) ?_
  have hnonneg : (0 : ℚ) ≤ num / den := by positivity
  rw [Nat.cast_natAbs, abs_of_nonneg (Rat.num_nonneg.mpr hnonneg), Rat.num_div_den]

/-- `roundRatio_eq_roundRat` for a significand with an exponent. -/
theorem roundDyadic_eq_roundRat (f : FloatFormat) (neg : Bool) (m : Nat) (e : Int) :
    roundDyadic f neg m e = roundRat f neg (m * 2 ^ e) := by
  rw [roundDyadic, roundRatio_eq_roundRat f neg _ (Nat.two_pow_pos _), two_zpow_eq]
  push_cast
  rw [mul_div_assoc]

/-! ### The operands -/

theorem abs_value (neg : Bool) (m : Nat) (e : Int) : |(FNum.fin neg m e).value| = m * 2 ^ e := by
  have hnonneg : (0 : ℚ) ≤ m * 2 ^ e := by positivity
  rw [FNum.value, mul_assoc, abs_mul, abs_of_nonneg hnonneg]
  cases neg <;> simp

/-- Negation flips the sign of the value (R82). -/
theorem value_not (neg : Bool) (m : Nat) (e : Int) :
    (FNum.fin (!neg) m e).value = -(FNum.fin neg m e).value := by
  cases neg <;> simp [FNum.value]

/-- A number is an integer in units of a smaller exponent. -/
theorem value_eq_scaledInt (neg : Bool) (m : Nat) (h : e0 ≤ e) :
    (FNum.fin neg m e).value = scaledInt neg m e e0 * 2 ^ e0 := by
  have hpow : (2 : ℚ) ^ e = 2 ^ (e - e0).toNat * 2 ^ e0 := by
    rw [← zpow_natCast, Int.toNat_of_nonneg (by omega), ← zpow_add₀ two_ne_zero, sub_add_cancel]
  rw [FNum.value, scaledInt, hpow]
  cases neg <;> simp [mul_assoc]

/-! ### The operations -/

/-- An exact sum rounded; `zeroNeg` is the sign of a sum that is zero (R81, log 13). -/
def roundSum (f : FloatFormat) (zeroNeg : Bool) (v : ℚ) : FNum :=
  if v = 0 then .fin zeroNeg 0 f.eMin else roundRat f (v < 0) |v|

theorem roundSum_zero (f : FloatFormat) (zeroNeg : Bool) : roundSum f zeroNeg 0 = .fin zeroNeg 0 f.eMin :=
  if_pos rfl

theorem roundSum_of_ne_zero (f : FloatFormat) (zeroNeg : Bool) {v : ℚ} (h : v ≠ 0) :
    roundSum f zeroNeg v = roundRat f (v < 0) |v| := if_neg h

/-- The model adds in units of the smaller exponent. -/
theorem addFinite_eq (f : FloatFormat) (sa : Bool) (ma : Nat) (ea : Int) (sb : Bool) (mb : Nat) (eb : Int) :
    addFinite f sa ma ea sb mb eb =
      roundSum f (sa && sb) ((FNum.fin sa ma ea).value + (FNum.fin sb mb eb).value) := by
  set v := (FNum.fin sa ma ea).value + (FNum.fin sb mb eb).value with hsum
  have hpos := two_zpow_pos (min ea eb)
  set t : Int := scaledInt sa ma ea (min ea eb) + scaledInt sb mb eb (min ea eb) with ht
  have hv : v = t * 2 ^ min ea eb := by
    rw [hsum, value_eq_scaledInt sa ma (min_le_left ea eb), value_eq_scaledInt sb mb (min_le_right ea eb),
      ht, Int.cast_add, add_mul]
  have hzero : v = 0 ↔ t = 0 := by rw [hv, mul_eq_zero, or_iff_left hpos.ne', Int.cast_eq_zero]
  have hneg : v < 0 ↔ t < 0 := by
    rw [hv, ← not_le, mul_nonneg_iff_of_pos_right hpos, Int.cast_nonneg_iff, not_le]
  have habs : |v| = t.natAbs * 2 ^ min ea eb := by
    rw [hv, abs_mul, abs_of_pos hpos, Nat.cast_natAbs, Int.cast_abs]
  rw [addFinite, roundSum, habs, ← roundDyadic_eq_roundRat]
  simp only [← ht, hzero, hneg]

theorem fadd_fin_eq (f : FloatFormat) (sa : Bool) (ma : Nat) (ea : Int) (sb : Bool) (mb : Nat) (eb : Int) :
    fadd f (some (.fin sa ma ea)) (some (.fin sb mb eb)) =
      some (roundSum f (sa && sb) ((FNum.fin sa ma ea).value + (FNum.fin sb mb eb).value)) :=
  congrArg some (addFinite_eq f sa ma ea sb mb eb)

theorem fsub_fin_eq (f : FloatFormat) (sa : Bool) (ma : Nat) (ea : Int) (sb : Bool) (mb : Nat) (eb : Int) :
    fsub f (some (.fin sa ma ea)) (some (.fin sb mb eb)) =
      some (roundSum f (sa && !sb) ((FNum.fin sa ma ea).value - (FNum.fin sb mb eb).value)) := by
  rw [sub_eq_add_neg, ← value_not]
  exact fadd_fin_eq f sa ma ea (!sb) mb eb

theorem fmul_fin_eq (f : FloatFormat) (sa : Bool) (ma : Nat) (ea : Int) (sb : Bool) (mb : Nat) (eb : Int) :
    fmul f (some (.fin sa ma ea)) (some (.fin sb mb eb)) =
      some (roundRat f (sa ^^ sb) |(FNum.fin sa ma ea).value * (FNum.fin sb mb eb).value|) := by
  rw [fmul, roundDyadic_eq_roundRat, abs_mul, abs_value, abs_value, mul_mul_mul_comm,
    ← zpow_add₀ two_ne_zero, Nat.cast_mul]

theorem fdiv_fin_eq (f : FloatFormat) (sa : Bool) (ma : Nat) (ea : Int) (sb : Bool) (eb : Int)
    (hm : m ≠ 0) :
    fdiv f (some (.fin sa ma ea)) (some (.fin sb m eb)) =
      some (roundRat f (sa ^^ sb) |(FNum.fin sa ma ea).value / (FNum.fin sb m eb).value|) := by
  have hden : 0 < m * 2 ^ (eb - ea).toNat := Nat.mul_pos (Nat.pos_of_ne_zero hm) (Nat.two_pow_pos _)
  have hratio : ((ma * 2 ^ (ea - eb).toNat : Nat) : ℚ) / (m * 2 ^ (eb - ea).toNat : Nat) =
      ma * 2 ^ ea / (m * 2 ^ eb) := by
    rw [mul_div_mul_comm (ma : ℚ), ← zpow_sub₀ two_ne_zero, two_zpow_eq, neg_sub]
    push_cast
    rw [mul_div_mul_comm]
  rw [fdiv, if_neg hm, roundRatio_eq_roundRat f _ _ hden, hratio, abs_div, abs_value, abs_value]

end Exact

/-- Settles O34: each operation as the rounding of its exact result. -/
theorem floatArithmeticRoundsExactResults : Obligations.FloatArithmeticRoundsExactResults := by
  intro sa sb ma mb ea eb f x y
  refine ⟨fun h => ?_, fun h => ?_, fun h => ?_, fun h => ?_, fmul_fin_eq .., fdiv_fin_eq f sa ma ea sb eb⟩
  · rw [fadd_fin_eq, roundSum_of_ne_zero f _ h]
  · rw [fadd_fin_eq, h, roundSum_zero]
  · rw [fsub_fin_eq, roundSum_of_ne_zero f _ h]
  · rw [fsub_fin_eq, h, roundSum_zero]

end Sys2Proof.Machine
end

section
/-! PROOF. FMOD is exact (43_float_arith.md R85). In units of the smaller exponent of the operands both are
integers, and the truncating remainder is smaller than one of the two significands: it has at most
`fracBits + 1` bits, so that it is a number of the format and rounds to itself. -/

namespace Sys2Proof.Machine

section Remainder

variable {f : FloatFormat} {m mb mc k : Nat} {e d eb ec : Int}

/-! ### Numbers that round to themselves -/

/-- Every integer of at most `fracBits + 1` bits, in units of a power of two in the format's range, is a number
of the format. -/
theorem exists_canonical_of_lt (hf : f.CoversBinary32) (hk : k < 2 ^ (f.fracBits + 1)) (hd : f.eMin ≤ d)
    (hd' : d ≤ f.eMax) : ∃ m e, Canonical f m e ∧ (m : ℝ) * 2 ^ e = k * 2 ^ d := by
  rcases hd'.lt_or_eq with hlt | rfl
  · exact exists_canonical k d hk.le hd hlt
  by_cases hlead : 2 ^ f.fracBits ≤ k
  · exact ⟨k, f.eMax, ⟨hd, le_rfl, hk, .inl hlead⟩, rfl⟩
  · -- without the leading bit `k` fits one place lower, below the greatest exponent
    have := hf.least
    have := hf.greatest
    obtain ⟨m, e, hc, hvalue⟩ := exists_canonical (f := f) (2 * k) (f.eMax - 1) (by rw [pow_succ]; omega)
      (by omega) (by omega)
    refine ⟨m, e, hc, hvalue.trans ?_⟩
    rw [show (2 : ℝ) ^ f.eMax = 2 * 2 ^ (f.eMax - 1) by rw [← two_zpow_add_one, sub_add_cancel]]
    push_cast
    ring

/-- Every number of the format is below the overflow threshold. -/
theorem lt_overflowAt_of_canonical (h : Canonical f m e) : (m : ℝ) * 2 ^ e < f.overflowAt := by
  obtain ⟨-, hemax, hm, -⟩ := h
  have hm : (m : ℝ) + 1 ≤ (2 ^ (f.fracBits + 1) : Nat) := by exact_mod_cast hm
  calc (m : ℝ) * 2 ^ e ≤ m * 2 ^ f.eMax :=
        mul_le_mul_of_nonneg_left (zpow_le_zpow_right₀ one_le_two hemax) (Nat.cast_nonneg m)
    _ < ((2 ^ (f.fracBits + 1) : Nat) - 1 / 2) * 2 ^ f.eMax :=
        mul_lt_mul_of_pos_right (by linarith) (two_zpow_real_pos _)
    _ = f.overflowAt := (overflowAt_eq f).symm

/-- An integer of at most `fracBits + 1` bits, in units of a power of two in the format's range, rounds to
itself. -/
theorem roundDyadic_exact (hf : f.CoversBinary32) (hk : k < 2 ^ (f.fracBits + 1)) (hd : f.eMin ≤ d)
    (hd' : d ≤ f.eMax) (neg : Bool) :
    ∃ m e, roundDyadic f neg k d = .fin neg m e ∧ Canonical f m e ∧ (m : ℝ) * 2 ^ e = k * 2 ^ d := by
  rcases Nat.eq_zero_or_pos k with rfl | hpos
  · have hzero : roundDyadic f neg 0 d = .fin neg 0 f.eMin := by
      rw [roundDyadic, zero_mul, roundRatio, if_pos rfl]
    exact ⟨0, f.eMin, hzero, inFormat_zero hf neg, by simp⟩
  · obtain ⟨j, p, hplace, hnearest, hround⟩ := roundDyadic_eq_atLastPlace f hpos d
    obtain ⟨m', e', hc, hvalue⟩ := exists_canonical_of_lt hf hk hd hd'
    have hbelow : (k : ℝ) * 2 ^ d < f.overflowAt := hvalue ▸ lt_overflowAt_of_canonical hc
    obtain ⟨m, e, hlast, heven⟩ := atLastPlace_of_lt hf hplace hnearest hbelow neg
    exact ⟨m, e, (hround neg).trans hlast, heven.1, heven.eq_of_eq hc hvalue.symm⟩

/-- Numbers of one sign and one real magnitude have one value. -/
theorem value_eq_of_magnitude_eq {neg : Bool} (h : (m : ℝ) * 2 ^ e = k * 2 ^ d) :
    (FNum.fin neg m e).value = (FNum.fin neg k d).value := by
  have hrat : (m : ℚ) * 2 ^ e = k * 2 ^ d := by
    apply Rat.cast_injective (α := ℝ)
    push_cast
    exact h
  rw [FNum.value, FNum.value, mul_assoc, hrat, mul_assoc]

/-! ### The remainder of two integers -/

/-- The remainder of two magnitudes in units of the smaller exponent, as the model computes it. -/
def remainderMant (mb : Nat) (eb : Int) (mc : Nat) (ec : Int) : Nat :=
  mb * 2 ^ (eb - min eb ec).toNat % (mc * 2 ^ (ec - min eb ec).toNat)

theorem fmod_fin_eq (f : FloatFormat) (sb sc : Bool) (mb : Nat) (eb ec : Int) (hmc : mc ≠ 0) :
    fmod f (some (.fin sb mb eb)) (some (.fin sc mc ec)) =
      some (roundDyadic f sb (remainderMant mb eb mc ec) (min eb ec)) := by
  rw [fmod, if_neg hmc, remainderMant]

/-- A truncating remainder has the magnitude of the remainder of the magnitudes and the dividend's sign. -/
theorem scaledInt_tmod (sb sc : Bool) (mb mc : Nat) (eb ec : Int) :
    (scaledInt sb mb eb (min eb ec)).tmod (scaledInt sc mc ec (min eb ec)) =
      scaledInt sb (remainderMant mb eb mc ec) (min eb ec) (min eb ec) := by
  simp only [scaledInt, remainderMant, sub_self, Int.toNat_zero, pow_zero, mul_one]
  generalize mb * 2 ^ (eb - min eb ec).toNat = b
  generalize mc * 2 ^ (ec - min eb ec).toNat = c
  cases sb <;> cases sc <;> simp [Int.neg_tmod, Int.tmod_neg, Int.tmod_eq_emod_of_nonneg]

/-- The operand with the smaller exponent has an unscaled significand, and it bounds the remainder. -/
theorem remainderMant_lt (hb : mb < k) (hc : mc < k) (hpos : mc ≠ 0) : remainderMant mb eb mc ec < k := by
  unfold remainderMant
  rcases le_total eb ec with hle | hle
  · rw [min_eq_left hle, sub_self, Int.toNat_zero, pow_zero, mul_one]
    exact (Nat.mod_le _ _).trans_lt hb
  · rw [min_eq_right hle, sub_self, Int.toNat_zero, pow_zero, mul_one]
    exact (Nat.mod_lt _ (Nat.pos_of_ne_zero hpos)).trans hc

/-- The exact remainder of two numbers in units of the smaller exponent. -/
theorem value_sub_truncRat_mul_value (sb sc : Bool) (mb mc : Nat) (eb ec : Int) :
    (FNum.fin sb mb eb).value -
        truncRat ((FNum.fin sb mb eb).value / (FNum.fin sc mc ec).value) * (FNum.fin sc mc ec).value =
      (FNum.fin sb (remainderMant mb eb mc ec) (min eb ec)).value := by
  rw [value_eq_scaledInt sb mb (min_le_left eb ec), value_eq_scaledInt sc mc (min_le_right eb ec),
    mul_div_mul_right _ _ (two_zpow_pos _).ne', truncRat_intCast_div, value_eq_scaledInt sb _ le_rfl,
    ← scaledInt_tmod sb sc, Int.tmod_def]
  push_cast
  ring

/-- The remainder of two numbers of the format is exact (R85). -/
theorem fmod_exact (hf : f.CoversBinary32) (hb : Canonical f mb eb) (hc : Canonical f mc ec) (hmc : mc ≠ 0)
    (sb sc : Bool) :
    ∃ m e, fmod f (some (.fin sb mb eb)) (some (.fin sc mc ec)) = some (.fin sb m e) ∧ Canonical f m e ∧
      (FNum.fin sb m e).value =
        (FNum.fin sb mb eb).value -
          truncRat ((FNum.fin sb mb eb).value / (FNum.fin sc mc ec).value) * (FNum.fin sc mc ec).value := by
  obtain ⟨hbmin, hbmax, hblt, -⟩ := hb
  obtain ⟨hcmin, -, hclt, -⟩ := hc
  obtain ⟨m, e, hround, hcanonical, hvalue⟩ := roundDyadic_exact hf (remainderMant_lt hblt hclt hmc)
    (le_min hbmin hcmin) ((min_le_left eb ec).trans hbmax) sb
  refine ⟨m, e, by rw [fmod_fin_eq f sb sc mb eb ec hmc, hround], hcanonical, ?_⟩
  rw [value_sub_truncRat_mul_value, value_eq_of_magnitude_eq hvalue]

end Remainder

/-- Settles O35: the numbers that two words read as are numbers of binary32. -/
theorem fmodIsTheExactRemainder : Obligations.FmodIsTheExactRemainder := by
  intro b c sb sc mb mc eb ec hb hc hmc
  rw [hb, hc]
  exact fmod_exact binary32_coversBinary32 (canonical_of_asF32 hb) (canonical_of_asF32 hc) hmc sb sc

end Sys2Proof.Machine
end

section
/-! PROOF. Stack, move and global-store operations (44_stack_move_global.md R88 to R93). Each is a sequence of
checked operations: the operations are said once, for an operand in range and for one out of range, then what
an effect that answers or ends in a register write makes of the instruction. The round trip of PUSH and POP
follows from their outcomes. -/

namespace Sys2Proof.Machine

section MoveOperations

variable {s t : State} {i : Instr} {n a u : Nat} {x : Int} {w : Word} {e : Int → State → Except Trap State}

/-! ### The checked operations -/

@[simp] theorem addPc_stackSlot (s : State) (k x : Int) : (s.addPc k).stackSlot x = s.stackSlot x := rfl

@[simp] theorem addPc_globalIndex (s : State) (k : Int) (u : Nat) :
    (s.addPc k).globalIndex u = s.globalIndex u := rfl

theorem stackSlot_of_hasSlot (h : s.hasSlot x) : s.stackSlot x = .ok x.toNat :=
  slot_eq_ok.mpr ⟨h.1, h.2, rfl⟩

theorem stackSlot_of_not_hasSlot (h : ¬ s.hasSlot x) : s.stackSlot x = .error ⟨.stackOutOfRange, x⟩ :=
  slot_eq_error.mpr ⟨by simp only [State.hasSlot] at h; omega, rfl⟩

theorem globalIndex_of_lt (h : u < s.cfg.globalCap) : s.globalIndex u = .ok u :=
  globalIndex_eq_ok.mpr ⟨h, rfl⟩

theorem globalIndex_of_le (h : s.cfg.globalCap ≤ u) : s.globalIndex u = .error ⟨.globalOutOfRange, u⟩ :=
  if_pos h

theorem addPc_writeReg_of_hasReg (h : s.hasReg a) (k : Int) (w : Word) :
    (s.addPc k).writeReg a w = .ok ((s.addPc k).setStack (s.stack.write (s.slotOf a) w)) :=
  writeReg_of_hasReg (s := s.addPc k) h w

theorem addPc_writeReg_of_not_hasReg (h : ¬ s.hasReg a) (k : Int) (w : Word) :
    (s.addPc k).writeReg a w = .error ⟨.registerOutOfRange, int32 s.bp + a⟩ := by
  simp [State.writeReg, regAddr_of_not_hasReg h]

/-! ### From the effect to the outcomes -/

/-- An effect that answers is the instruction completed and counted (R58). -/
theorem exec_of_effect (hexec : exec i s = .next (s.perform e))
    (he : (e (int32 s.pc) (s.addPc 1)).map State.count = .ok t) : exec i s = .next t := by
  rw [hexec, State.perform]
  cases hanswer : e (int32 s.pc) (s.addPc 1) with
  | ok u =>
    rw [hanswer] at he
    exact congrArg _ (Except.ok.inj he)
  | error tr => rw [hanswer] at he; cases he

/-- An instruction that reads one register before all else checks it before all else (R110). -/
theorem sourceFaults_one {rest : Int → State → Word → Except Trap State}
    (hexec : exec i s = .next (s.perform fun pc0 t => do
      let v ← t.readReg n
      rest pc0 t v)) : SourceFaults i [n] s :=
  sourceFaults_cons (fun hn => raises_of_effect hexec (by simp [readReg_of_not_hasReg hn]))
    fun _ => sourceFaults_nil

/-- An effect that comes to a register write puts the word in the register. -/
theorem exec_of_writeReg (ha : s.hasReg a) (hexec : exec i s = .next (s.perform e))
    (he : e (int32 s.pc) (s.addPc 1) = (s.addPc 1).writeReg a w) :
    exec i s = .next (s.advanced.putReg a w) :=
  exec_of_effect hexec (by rw [he, addPc_writeReg_of_hasReg ha]; rfl)

theorem raises_of_writeReg (ha : ¬ s.hasReg a) (hexec : exec i s = .next (s.perform e))
    (he : e (int32 s.pc) (s.addPc 1) = (s.addPc 1).writeReg a w) :
    Raises i s .registerOutOfRange (int32 s.bp + a) :=
  raises_of_effect hexec (he.trans (addPc_writeReg_of_not_hasReg ha 1 w))

/-- A fault raised shows in the status (R111). -/
theorem Raises.status_eq {kind : FaultKind} {info : Int} (hraises : Raises i s kind info)
    (h : exec i s = .next t) : t.status = .faulted := by
  obtain rfl := Host.Outcome.next.inj (hraises.symm.trans h)
  rfl

end MoveOperations

/-! ### The outcomes settled -/

/-- Settles O39: the register is checked before the slot above the top. -/
theorem pushOutcomes : Obligations.PushOutcomes := fun _ _ =>
  ⟨sourceFaults_one rfl,
    fun ha hslot => exec_of_effect rfl (by
      rw [addPc_readReg, readReg_of_hasReg ha, bind_ok, addPc_stackSlot, State.addPc_sp,
        stackSlot_of_hasSlot hslot]
      rfl),
    fun ha hslot => raises_of_effect rfl (by simp [readReg_of_hasReg ha, stackSlot_of_not_hasSlot hslot])⟩

/-- Settles O40: the top slot is checked before the register. -/
theorem popOutcomes : Obligations.PopOutcomes := fun _ _ =>
  ⟨fun hslot => raises_of_effect rfl (by simp [stackSlot_of_not_hasSlot hslot]),
    fun hslot ha => raises_of_effect rfl
      (by simp [stackSlot_of_hasSlot hslot, addPc_writeReg_of_not_hasReg ha]),
    fun hslot ha => exec_of_effect rfl (by
      rw [addPc_stackSlot, State.addPc_sp, stackSlot_of_hasSlot hslot, bind_ok,
        addPc_writeReg_of_hasReg ha]
      rfl)⟩

/-- Settles O42: one source or none, and a register write. -/
theorem moveOutcomes : Obligations.MoveOutcomes := fun _ _ u _ _ =>
  have himm : zext16 u = wrap32 u := (BitVec.ofInt_natCast 32 u).symm
  ⟨sourceFaults_one rfl,
    fun hb ha => exec_of_writeReg ha rfl (by simp [readReg_of_hasReg hb]),
    fun hb ha => raises_of_writeReg ha rfl (by rw [addPc_readReg, readReg_of_hasReg hb, bind_ok]),
    fun ha => exec_of_writeReg ha rfl (by rw [himm]),
    fun ha => raises_of_writeReg ha rfl rfl⟩

/-- Settles O43: LOADG checks the index first, SETG its register. -/
theorem globalAccessOutcomes : Obligations.GlobalAccessOutcomes := fun _ _ _ =>
  ⟨fun hu => raises_of_effect rfl (by simp [globalIndex_of_le hu]),
    fun hu ha => raises_of_writeReg ha rfl (by rw [addPc_globalIndex, globalIndex_of_lt hu, bind_ok]),
    fun hu ha => exec_of_writeReg ha rfl (by simp [globalIndex_of_lt hu]),
    sourceFaults_one rfl,
    fun ha hu => raises_of_effect rfl (by simp [readReg_of_hasReg ha, globalIndex_of_le hu]),
    fun ha hu => exec_of_effect rfl (by
      rw [addPc_readReg, readReg_of_hasReg ha, bind_ok, addPc_globalIndex, globalIndex_of_lt hu]
      rfl)⟩

/-! ### PUSH then POP -/

section RoundTrip

variable {s t : State} {a : Nat}

/-- A PUSH that completes has stored the register's word in the slot that `sp` now gives (R88). -/
theorem push_of_not_faulted (h : exec (.push a) s = .next t) (ht : t.status ≠ .faulted) :
    t.sp = wrap32 (int32 s.sp + 1) ∧ t.stack = s.stack.write (int32 s.sp + 1).toNat (s.reg a) := by
  obtain ⟨hsource, hcompletes, hfull⟩ := pushOutcomes a s
  have ha : s.hasReg a := by
    by_contra ha
    exact ht ((hsource [] a [] rfl nofun ha).status_eq h)
  have hslot : s.hasSlot (int32 s.sp + 1) := by
    by_contra hslot
    exact ht ((hfull ha hslot).status_eq h)
  obtain rfl := Host.Outcome.next.inj ((hcompletes ha hslot).symm.trans h)
  exact ⟨rfl, rfl⟩

/-- A POP that completes leaves the register reading as the top slot did, also where they are one slot (R89). -/
theorem pop_of_not_faulted (hs : s.stack.wf) (h : exec (.pop a) s = .next t) (ht : t.status ≠ .faulted) :
    s.hasSlot (int32 s.sp) ∧ t.sp = wrap32 (int32 s.sp - 1) ∧
      t.reg a = s.stack.read (int32 s.sp).toNat := by
  obtain ⟨hempty, hdest, hcompletes⟩ := popOutcomes a s
  have hslot : s.hasSlot (int32 s.sp) := by
    by_contra hslot
    exact ht ((hempty hslot).status_eq h)
  have ha : s.hasReg a := by
    by_contra ha
    exact ht ((hdest hslot ha).status_eq h)
  obtain rfl := Host.Outcome.next.inj ((hcompletes hslot ha).symm.trans h)
  exact ⟨hslot, rfl, Memory.read_write_self hs (s.slotOf a) _⟩

/-- A stack pointer that is raised and still names a slot did not wrap to the negative half (R8, R17). -/
theorem int32_wrap32_succ (v : Word) (h : 0 ≤ int32 (wrap32 (int32 v + 1))) :
    int32 (wrap32 (int32 v + 1)) = int32 v + 1 := by
  obtain ⟨hmin, hmax⟩ := int32_inInt32 v
  have hsmall : int32 v + 1 < 2147483648 := by
    by_contra hlarge
    have hlast : int32 v = 2147483647 := by omega
    rw [hlast] at h
    exact absurd h (by decide)
  exact BitVec.toInt_ofInt_eq_self (by decide) (by omega) (by omega)

end RoundTrip

/-- Settles O41: POP takes the slot that PUSH stored to, since the raised stack pointer names a slot and so did
not wrap. -/
theorem pushThenPopRoundTrip : Obligations.PushThenPopRoundTrip := by
  intro a s t u hs hpush ht hpop hu
  obtain ⟨hsp, hstack⟩ := push_of_not_faulted hpush ht
  have hwf : t.stack.wf := hstack ▸ Memory.write_wf hs.stackCanonical _ _
  obtain ⟨⟨hnonneg, -⟩, hpopped, hreg⟩ := pop_of_not_faulted hwf hpop hu
  have htop : int32 t.sp = int32 s.sp + 1 := hsp ▸ int32_wrap32_succ s.sp (hsp ▸ hnonneg)
  constructor
  · rw [hpopped, htop, add_sub_cancel_right]
    exact BitVec.ofInt_toInt
  · rw [hreg, htop, hstack, Memory.read_write_self hs.stackCanonical]

end Sys2Proof.Machine
end

section
/-! PROOF. Comparisons and branches (45_compare_branch.md R94 to R100). Each reads its sources in order and then
moves `pc` on from the advanced address or leaves it there; what the two moves come to is said once, and each
instruction adds what its condition means of the registers' words. -/

namespace Sys2Proof.Machine

section Branching

variable {s : State} {i : Instr} {n a b : Nat}

/-! ### The moves of `pc` -/

/-- A relative branch starts from the advanced `pc` (R56, R98). -/
theorem count_addPc_addPc_one (s : State) (k : Int) : ((s.addPc 1).addPc k).count = s.branched k :=
  congrArg (fun p => (s.setPc p).count) (wrap32_add (int32 s.pc + 1) k)

/-- A condition that holds branches, and one that does not only advances. -/
theorem count_ite_addPc (s : State) (k : Int) (P : Prop) [Decidable P] :
    (if P then (s.addPc 1).addPc k else s.addPc 1).count = if P then s.branched k else s.advanced := by
  split_ifs
  · exact count_addPc_addPc_one s k
  · rfl

/-! ### The conditions, of the words -/

theorem cmpCond_int32 (v w : Word) : cmpCond (int32 v) (int32 w) = decide (v = w) :=
  decide_eq_decide.mpr BitVec.toInt_inj

theorem jeCond_int32 (v : Word) : jeCond (int32 v) = decide (v ≠ 0) :=
  decide_eq_decide.mpr (not_congr (BitVec.toInt_inj (y := 0)))

/-! ### From the effect to the outcomes -/

/-- An instruction that reads one integer before all else checks its register before all else (R110). -/
theorem sourceFaults_readInt {rest : Int → State → Int → Except Trap State}
    (hexec : exec i s = .next (s.perform fun pc0 t => do
      let x ← t.readInt n
      rest pc0 t x)) : SourceFaults i [n] s :=
  sourceFaults_cons (fun hn => raises_of_effect hexec (by simp [readInt_of_not_hasReg hn]))
    fun _ => sourceFaults_nil

/-- The same for two integers, in the order they are read. -/
theorem sourceFaults_readInt_two {rest : Int → State → Int → Int → Except Trap State}
    (hexec : exec i s = .next (s.perform fun pc0 t => do
      let x ← t.readInt a
      let y ← t.readInt b
      rest pc0 t x y)) : SourceFaults i [a, b] s := by
  refine sourceFaults_cons (fun ha => ?_) fun ha => sourceFaults_cons (fun hb => ?_) fun _ => sourceFaults_nil
  · exact raises_of_effect hexec (by simp [readInt_of_not_hasReg ha])
  · exact raises_of_effect hexec (by simp [readInt_of_hasReg ha, readInt_of_not_hasReg hb])

/-- A comparison that passes its register checks skips where its condition holds (R94). -/
theorem exec_of_skipIf {cond : Int → Int → Bool} {P : Prop} [Decidable P]
    (ha : s.hasReg a) (hb : s.hasReg b)
    (hexec : exec i s = .next (s.perform fun _ t => do
      let x ← t.readInt a
      let y ← t.readInt b
      .ok (t.skipIf (cond x y))))
    (hcond : cond (int32 (s.reg a)) (int32 (s.reg b)) = decide P) :
    exec i s = .next (if P then s.branched 1 else s.advanced) := by
  have hskip : (s.addPc 1).skipIf (decide P) = if P then (s.addPc 1).addPc 1 else s.addPc 1 := by
    simp only [State.skipIf, decide_eq_true_eq]
  refine exec_of_effect hexec ?_
  rw [addPc_readInt, readInt_of_hasReg ha, bind_ok, addPc_readInt, readInt_of_hasReg hb, bind_ok, hcond,
    hskip, ← count_ite_addPc]
  rfl

/-- JE reads its register and branches where the word is not zero (R98). -/
theorem exec_je_of_hasReg (ha : s.hasReg a) (k : Int) :
    exec (.je a k) s = .next (if s.reg a ≠ 0 then s.branched k else s.advanced) := by
  refine exec_of_effect rfl ?_
  rw [addPc_readInt, readInt_of_hasReg ha, bind_ok, jeCond_int32, ← count_ite_addPc]
  simp only [decide_eq_true_eq]
  rfl

end Branching

/-! ### The statements settled -/

/-- Settles O44: two sources, and a skip on equal words or on the signed order of the two readings. -/
theorem compareOutcomes : Obligations.CompareOutcomes := fun _ _ _ =>
  ⟨sourceFaults_readInt_two rfl, sourceFaults_readInt_two rfl, sourceFaults_readInt_two rfl, fun ha hb =>
    ⟨exec_of_skipIf ha hb rfl (cmpCond_int32 _ _), exec_of_skipIf ha hb rfl rfl,
      exec_of_skipIf ha hb rfl rfl⟩⟩

/-- Settles O45: one source and a branch on its word, or a branch with nothing to check (R100). -/
theorem branchOutcomes : Obligations.BranchOutcomes := fun _ k s =>
  ⟨sourceFaults_readInt rfl, fun ha => exec_je_of_hasReg ha k,
    congrArg Host.Outcome.next (count_addPc_addPc_one s k)⟩

end Sys2Proof.Machine
end

section
/-! PROOF. Calls and returns (46_call_return.md R101 to R105). The descriptor's checks and the two operations on
`CS` are said first, for each way they can go, and give the outcomes. The round trip rests on the frame stack
being a stack: a step only pushes or pops, so while `CS` is no shallower than the callee's depth, everything up
to that depth stays as it is. -/

namespace Sys2Proof.Machine

section FrameStack

variable {s t u : State} {i : Instr} {k a n : Nat} {d : MethodDesc} {fr : Frame} {saved : List Frame}

/-! ### The descriptor and the frame stack -/

@[simp] theorem addPc_method (s : State) (x : Int) (k : Nat) : (s.addPc x).method k = s.method k := rfl

theorem method_of_le (h : s.cfg.methodCap ≤ k) : s.method k = .error ⟨.methodOutOfRange, k⟩ := if_pos h

theorem method_of_unregistered (hk : k < s.cfg.methodCap) (h : lookup s.methods k = none) :
    s.method k = .error ⟨.unregisteredMethod, k⟩ := by
  rw [State.method, if_neg (Nat.not_le.mpr hk), h]

theorem method_of_registered (hk : k < s.cfg.methodCap) (h : lookup s.methods k = some d) :
    s.method k = .ok d :=
  method_eq_ok.mpr ⟨hk, h⟩

theorem pushFrame_of_full (h : s.cs.length = s.cfg.callDepthCap) :
    s.pushFrame k = .error ⟨.callStackOverflow, k⟩ := if_pos h

theorem pushFrame_of_room (h : s.cs.length ≠ s.cfg.callDepthCap) :
    s.pushFrame k = .ok (s.setCs (s.cs ++ [s.frame])) := if_neg h

theorem popFrame_of_empty (h : s.cs = []) (pc0 : Int) :
    s.popFrame pc0 = .error ⟨.callStackUnderflow, pc0⟩ := by
  rw [State.popFrame, h, List.getLast?_nil]

theorem popFrame_of_pushed (h : s.cs = saved ++ [fr]) (pc0 : Int) :
    s.popFrame pc0 = .ok ((s.setFrame fr).setCs saved) :=
  popFrame_eq_ok.mpr ⟨fr, by simp [h], by rw [h, List.dropLast_concat]⟩

/-! ### What a completing instruction leaves of `CS` -/

/-- An instruction that answers without a fault has completed. -/
theorem completes_of_not_faulted (h : exec i s = .next t) (ht : t.status ≠ .faulted) :
    ∃ u, Completes s i u ∧ t = u.count :=
  (exec_cases h).resolve_left fun ⟨_, hfault⟩ => ht (congrArg State.status hfault)

/-- CALL pushes the caller's frame with the advanced `pc` (R101). -/
theorem Completes.cs_of_call (h : Completes s (.call k) u) : u.cs = s.cs ++ [(s.addPc 1).frame] := by
  cases h with
  | call => rfl
  | wrote _ _ _ _ _ hdest => cases hdest
  | moved _ _ hmoves => simp [Instr.mnemonic] at hmoves

/-- RET makes the most recent frame the current one and takes it off `CS` (R102). -/
theorem Completes.frame_cs_of_ret (h : Completes s (.ret a) u) (hcs : s.cs = saved ++ [fr]) :
    u.frame = fr ∧ u.cs = saved := by
  cases h with
  | ret _ fr' _ hlast =>
    obtain rfl : fr = fr' := by simpa [hcs] using hlast
    exact ⟨rfl, by simp [hcs]⟩
  | wrote _ _ _ _ _ hdest => cases hdest
  | moved _ _ hmoves => simp [Instr.mnemonic] at hmoves

/-- An instruction only pushes onto `CS` or pops from it, if it touches it (R20). -/
theorem Completes.cs_cases (h : Completes s i u) : s.cs <+: u.cs ∨ u.cs <+: s.cs := by
  cases h with
  | call => exact .inl (List.prefix_append _ _)
  | ret => exact .inr (List.dropLast_prefix _)
  | _ => exact .inl List.prefix_rfl

/-! ### A run of the callee -/

theorem step_cs_cases (h : step s = .next t) : s.cs <+: t.cs ∨ t.cs <+: s.cs := by
  obtain rfl | ⟨tr, rfl⟩ | ⟨i, u, hu, rfl⟩ := step_cases h
  · exact .inl List.prefix_rfl
  · exact .inl List.prefix_rfl
  · exact hu.cs_cases

/-- A step that leaves `CS` no shallower than `saved` leaves `saved` at its bottom. -/
theorem prefix_cs_of_step (hs : saved <+: s.cs) (h : step s = .next t)
    (hdepth : saved.length ≤ t.cs.length) : saved <+: t.cs := by
  obtain hpushed | hpopped := step_cs_cases h
  · exact hs.trans hpushed
  · exact List.prefix_of_prefix_length_le hs hpopped hdepth

/-- So does a run that never leaves it shallower. -/
theorem prefix_cs_of_runSteps (hs : saved <+: s.cs)
    (hdepth : ∀ j, j ≤ n → saved.length ≤ (runSteps j s).cs.length) : saved <+: (runSteps n s).cs := by
  induction n generalizing s with
  | zero => exact hs
  | succ n ih =>
    obtain ⟨t, ht⟩ := exists_step_eq_next s
    have hrest : ∀ j, j ≤ n → saved.length ≤ (runSteps j t).cs.length := fun j hj =>
      runSteps_succ ht j ▸ hdepth (j + 1) (Nat.succ_le_succ hj)
    rw [runSteps_succ ht]
    exact ih (prefix_cs_of_step hs ht (hrest 0 (Nat.zero_le n))) hrest

end FrameStack

/-! ### The statements settled -/

/-- Settles O46: the index, the descriptor and the depth are checked in this order. -/
theorem callOutcomes : Obligations.CallOutcomes := fun k s =>
  ⟨fun hk => raises_of_effect rfl (by simp [method_of_le hk]),
    fun hk hnone => raises_of_effect rfl (by simp [method_of_unregistered hk hnone]),
    fun d hk hd hfull => raises_of_effect rfl (by
      have hpush : (s.addPc 1).pushFrame k = .error ⟨.callStackOverflow, k⟩ := pushFrame_of_full hfull
      simp [method_of_registered hk hd, hpush]),
    fun d hk hd hroom => exec_of_effect rfl (by
      rw [addPc_method, method_of_registered hk hd, bind_ok, pushFrame_of_room (s := s.addPc 1) hroom]
      rfl)⟩

/-- Settles O47: the register is read before the frame stack is looked at. -/
theorem retOutcomes : Obligations.RetOutcomes := fun _ s =>
  ⟨sourceFaults_one rfl,
    fun ha hempty => raises_of_effect rfl (by
      simp [readReg_of_hasReg ha, popFrame_of_empty (s := s.addPc 1) hempty]),
    fun _ _ ha hcs => exec_of_effect rfl (by
      rw [addPc_readReg, readReg_of_hasReg ha, bind_ok, popFrame_of_pushed (s := s.addPc 1) hcs]
      rfl)⟩

/-- Settles O48: a register write of `RV`, and what is printed is that word. -/
theorem loadretOutcomes : Obligations.LoadretOutcomes := fun _ _ =>
  ⟨fun ha => raises_of_effect rfl (by simp [addPc_writeReg_of_not_hasReg ha]),
    fun ha hquiet => exec_of_effect rfl (by
      rw [State.addPc_rv, addPc_writeReg_of_hasReg ha, bind_ok, State.addPc_cfg, hquiet]
      rfl),
    fun ha hprints => exec_of_effect rfl (by
      rw [State.addPc_rv, addPc_writeReg_of_hasReg ha, bind_ok, State.addPc_cfg, hprints]
      rfl)⟩

/-- Settles O49: the frame CALL pushed is still on top of the same `CS` when the run is back at its depth, so it
is the one RET pops. -/
theorem callRetRoundTripOverRuns : Obligations.CallRetRoundTripOverRuns := by
  rintro k r n s t u v hcall ht hdeep rfl hdepth hret hv
  obtain ⟨callee, hcallee, rfl⟩ := completes_of_not_faulted hcall ht
  obtain ⟨returned, hreturned, rfl⟩ := completes_of_not_faulted hret hv
  have hkept : callee.count.cs = (runSteps n callee.count).cs :=
    (prefix_cs_of_runSteps List.prefix_rfl hdeep).eq_of_length hdepth.symm
  have hpushed : (runSteps n callee.count).cs = s.cs ++ [(s.addPc 1).frame] :=
    hkept.symm.trans hcallee.cs_of_call
  obtain ⟨hframe, hcs⟩ := hreturned.frame_cs_of_ret hpushed
  obtain ⟨hbp, hsp, hpc⟩ := Frame.mk.inj hframe
  exact ⟨hbp, hsp, hpc, hcs⟩

end Sys2Proof.Machine
end

section
/-! PROOF. Output, termination and faults (47_output_halt.md R106, R107; 60_exceptions.md R108 to R114). PRINT and
END follow from their effects. A run that has started stays Running until it halts or a fault with a code is
recorded, which gives both the precise entry of a fault and what a run returns. -/

namespace Sys2Proof.Machine

section RunResults

variable {s t : State}

/-! ### A step that faults -/

/-- A step of a Running core that leaves it Faulted has taken a fault: a completing instruction leaves the core
Running or Halted (R59, R111). -/
theorem faultedAt_of_step (hrun : s.status = .running) (h : step s = .next t) (ht : t.status = .faulted) :
    ∃ kind info, kind.code ≠ none ∧ t = s.faultedAt s.wordAtPc kind info := by
  obtain ⟨tr, hcode, rfl⟩ | ⟨i, u, -, hu, rfl⟩ := running_step_cases hrun h
  · exact ⟨tr.kind, tr.info, hcode, by rw [raiseFault_eq, fetch_eq_wordAtPc]⟩
  · obtain hstatus | hstatus := hu.status_fault.1 <;> rw [State.count_status, hstatus] at ht
    · rw [hrun] at ht; cases ht
    · cases ht

/-! ### What a run returns -/

theorem runResult_of_halted (h : s.status = .halted) : s.runResult = some (.executed s.icount) := by
  unfold State.runResult
  rw [h]

/-- An abort is the one kind without a code (R108, R114). -/
theorem code_eq_none_iff {kind : FaultKind} : kind.code = none ↔ kind = .aborted := by
  cases kind <;> decide

theorem runResult_of_aborted {r : FaultRecord} (hs : s.status = .faulted) (hr : s.fault = some r)
    (hkind : r.kind = .aborted) : s.runResult = some (.aborted s.icount) := by
  unfold State.runResult
  rw [hs, hr]
  simp only [hkind]

/-- Any other kind on record is reported (R112). -/
theorem runResult_of_not_aborted {r : FaultRecord} (hs : s.status = .faulted) (hr : s.fault = some r)
    (hkind : r.kind ≠ .aborted) :
    s.runResult = some (.faultReport r.kind.code r.kind r.pc r.word r.info s.icount) := by
  unfold State.runResult
  rw [hs, hr]
  -- `hkind` excludes the arm of an abort
  simp only

/-! ### Every run ends with a result -/

/-- A run that has ended: at END, or with a fault or an abort on record (R28, R59, R114). -/
def State.RunEnded (s : State) : Prop := s.status = .halted ∨ s.status = .faulted ∧ s.fault ≠ none

/-- What every step of a run keeps: it goes on or has ended. -/
def State.RunStarted (s : State) : Prop := s.status = .running ∨ s.RunEnded

theorem State.RunStarted.step (hs : s.RunStarted) (h : step s = .next t) : t.RunStarted := by
  by_cases hrun : s.status = .running
  · obtain ⟨tr, -, rfl⟩ | ⟨i, u, -, hu, rfl⟩ := running_step_cases hrun h
    · exact .inr (.inr ⟨rfl, Option.some_ne_none _⟩)
    · exact hu.status_fault.1.imp (·.trans hrun) .inl
  · obtain rfl := Host.Outcome.next.inj ((step_of_not_running hrun).symm.trans h)
    exact hs

/-- The host's abort ends a run that still goes on, and leaves one that has ended (R114). -/
theorem State.RunStarted.hostAbort (hs : s.RunStarted) : (hostAbort s).RunEnded := by
  unfold Machine.hostAbort
  split_ifs with hrun
  · exact .inr ⟨rfl, Option.some_ne_none _⟩
  · exact hs.resolve_left hrun

theorem State.RunEnded.runResult_ne_none (hs : s.RunEnded) : s.runResult ≠ none := by
  obtain hhalted | ⟨hfaulted, hrecord⟩ := hs
  · rw [runResult_of_halted hhalted]
    exact Option.some_ne_none _
  · obtain ⟨r, hr⟩ := Option.ne_none_iff_exists'.mp hrecord
    by_cases hkind : r.kind = .aborted
    · rw [runResult_of_aborted hfaulted hr hkind]
      exact Option.some_ne_none _
    · rw [runResult_of_not_aborted hfaulted hr hkind]
      exact Option.some_ne_none _

end RunResults

/-! ### The statements settled -/

/-- Settles O50: one source, and its int32 reading emitted. -/
theorem printOutcomes : Obligations.PrintOutcomes := fun _ _ =>
  ⟨sourceFaults_readInt rfl, exec_print_of_hasReg⟩

/-- Settles O51: the effect has no check and sets the status on the advanced state. -/
theorem endOutcome : Obligations.EndOutcome := fun _ => exec_of_effect rfl rfl

/-- Settles O9: a completing instruction does not leave the core Faulted, so the step took a fault. -/
theorem faultEntryIsPrecise : Obligations.FaultEntryIsPrecise :=
  fun _ _ => faultedAt_of_step

/-- Settles O59: the fault a step takes has a code, and a run under a budget has ended when the abort has been
given its chance. -/
theorem runResultOutcomes : Obligations.RunResultOutcomes := by
  refine ⟨fun s => runResult_of_halted, fun s t hrun h ht => ?_, fun n program entry s t h => ?_, by decide, rfl⟩
  · obtain ⟨kind, info, hcoded, rfl⟩ := faultedAt_of_step hrun h ht
    obtain ⟨code, hcode⟩ := Option.ne_none_iff_exists'.mp hcoded
    refine ⟨kind, code, info, hcode, rfl, ?_⟩
    rw [← hcode]
    have hkind : kind ≠ .aborted := mt code_eq_none_iff.mpr hcoded
    exact runResult_of_not_aborted (r := ⟨kind, s.pc, s.wordAtPc, some info⟩) rfl rfl hkind
  · obtain ⟨u, hu, rfl⟩ := hostRunBudget_eq_ok h
    have hstarted : (runSteps n u).RunStarted :=
      runSteps_keeps (fun _ _ hs => hs.step) (.inl (hostRun_eq_ok hu).1) n
    have hended := hstarted.hostAbort
    exact ⟨hended.imp_right And.left, hended.runResult_ne_none⟩

end Sys2Proof.Machine
end

section
/-! PROOF. The host interface (70_reset_and_hazards.md R119 to R125, 60_exceptions.md R114). Each operation is said
once: refused in a status that is not ready, and otherwise exactly when it succeeds and with which state. The
outcomes and the invariant are read off these. -/

namespace Sys2Proof.Machine

section HostInterface

variable {s t : State} {d : MethodDesc} {k : Int} {w : Word} {program : List Word} {entry : Int}

/-! ### The statuses an operation is legal in -/

theorem ready_iff {st : Status} : st.ready = true ↔ st = .idle ∨ st = .halted := by
  cases st <;> decide

theorem hostSetMethod_of_not_ready (h : s.status.ready = false) :
    hostSetMethod d k s = .error .notInitialized := if_pos h

theorem hostSetStack_of_not_ready (h : s.status.ready = false) :
    hostSetStack k w s = .error .notInitialized := if_pos h

theorem hostRun_of_not_ready (h : s.status.ready = false) :
    hostRun program entry s = .error .notInitialized := if_pos h

theorem hostShutdown_of_not_ready (h : s.status.ready = false) :
    hostShutdown s = .error .notInitialized := if_pos h

/-! ### The errors of a ready core -/

theorem hostSetMethod_of_outside (h : s.status.ready = true) (hk : ¬ (0 ≤ k ∧ k < s.cfg.methodCap)) :
    hostSetMethod d k s = .error .indexOutOfRange := by
  rw [hostSetMethod, if_neg (by simp [h]), if_pos (by omega)]

theorem hostSetStack_of_outside (h : s.status.ready = true) (hk : ¬ (0 ≤ k ∧ k < s.cfg.stackCap)) :
    hostSetStack k w s = .error .indexOutOfRange := by
  rw [hostSetStack, if_neg (by simp [h]), if_pos (by omega)]

theorem hostRun_of_empty (h : s.status.ready = true) (hp : program = []) :
    hostRun program entry s = .error .noProgram := by
  rw [hostRun, if_neg (by simp [h]), if_pos hp]

/-! ### When an operation succeeds, and with which state -/

/-- The two checks that `setMethod` and `setStack` share: the status, then the index (R120, R121). -/
theorem checked_eq_ok_iff {ready : Bool} {cap : Nat} {u : State} :
    (if ready = false then .error HostError.notInitialized
      else if k < 0 ∨ (cap : Int) ≤ k then .error .indexOutOfRange
      else .ok u) = Except.ok t ↔ ready = true ∧ 0 ≤ k ∧ k < cap ∧ t = u := by
  split_ifs with hready hk
  · simp [hready]
  · simp only [false_iff]
    omega
  · have hindex : 0 ≤ k ∧ k < cap := by omega
    simp [hready, hindex, eq_comm]

theorem hostSetMethod_eq_ok_iff :
    hostSetMethod d k s = .ok t ↔ s.status.ready = true ∧ 0 ≤ k ∧ k < s.cfg.methodCap ∧
      t = s.setMethods (insertAt s.methods k.toNat d) :=
  checked_eq_ok_iff

theorem hostSetStack_eq_ok_iff :
    hostSetStack k w s = .ok t ↔ s.status.ready = true ∧ 0 ≤ k ∧ k < s.cfg.stackCap ∧
      t = s.setStack (s.stack.write k.toNat w) :=
  checked_eq_ok_iff

theorem hostRun_eq_ok_iff :
    hostRun program entry s = .ok t ↔ s.status.ready = true ∧ program ≠ [] ∧
      t = { s with
        prog := program, bp := 0, sp := 0, pc := wrap32 entry
        cs := [], icount := 0, fault := none, status := .running } := by
  unfold hostRun
  split_ifs with hready hp
  · simp [hready]
  · simp [hp]
  · simp [hready, hp, eq_comm]

theorem hostShutdown_eq_ok_iff :
    hostShutdown s = .ok t ↔ s.status.ready = true ∧ t = s.setStatus .uninit := by
  unfold hostShutdown
  split_ifs with hready <;> simp [hready, eq_comm]

theorem hostAbort_of_running (h : s.status = .running) :
    hostAbort s = { s with status := .faulted, fault := some ⟨.aborted, s.pc, none, none⟩ } := if_pos h

/-! ### The draws of `init` -/

/-- The store `init` builds reads as the draws below its capacity (R119). -/
theorem Memory.read_tabulate (draw : Nat → Word) {i n : Nat} (hi : i < n) :
    (Memory.tabulate draw n).read i = draw i := by
  induction n with
  | zero => omega
  | succ n ih =>
    have hwf := (Memory.tabulate_wf draw n).1
    rw [Memory.tabulate]
    by_cases hlast : i = n
    · rw [hlast, Memory.read_write_self hwf]
    · rw [Memory.read_write_of_ne hwf hlast, ih (by omega)]

/-! ### The invariant -/

/-- Whatever is drawn is listed in canonical form, and nothing else is listed, printed or recorded. -/
theorem hostInit_ok (h n : Nat) (draw : Nat → Word) (rv : Word) (s : State) : (hostInit h n draw rv s).Ok where
  memory :=
    { stackCanonical := (Memory.tabulate_wf draw h).1
      stackInside := (Memory.tabulate_wf draw h).2
      globalsCanonical := reset_memory_wf.2
      globalsInside := List.forall_mem_nil _
      methodsRising := List.Pairwise.nil
      methodsInside := List.forall_mem_nil _ }
  depth := Nat.zero_le _
  printed := List.forall_mem_nil _
  faultedHasRecord := nofun
  runningHasNone := nofun

theorem State.Ok.hostSetMethod (hs : s.Ok) (h : hostSetMethod d k s = .ok t) : t.Ok := by
  obtain ⟨-, hnonneg, hlt, rfl⟩ := hostSetMethod_eq_ok_iff.mp h
  exact { hs with
    memory := { hs.memory with
      methodsRising := rising_insertAt _ _ hs.memory.methodsRising
      methodsInside := below_insertAt hs.memory.methodsInside (by omega) _ } }

theorem State.Ok.hostSetStack (hs : s.Ok) (h : hostSetStack k w s = .ok t) : t.Ok := by
  obtain ⟨-, hnonneg, hlt, rfl⟩ := hostSetStack_eq_ok_iff.mp h
  exact { hs with
    memory := { hs.memory with
      stackCanonical := Memory.write_wf hs.memory.stackCanonical _ _
      stackInside := Memory.write_below hs.memory.stackInside (by omega) _ } }

/-- A run starts with no frame saved and no record, and keeps the memories and the output (R123). -/
theorem State.Ok.hostRun (hs : s.Ok) (h : hostRun program entry s = .ok t) : t.Ok := by
  obtain ⟨-, -, rfl⟩ := hostRun_eq_ok_iff.mp h
  exact {
    memory := { hs.memory with }
    depth := Nat.zero_le _
    printed := hs.printed
    faultedHasRecord := nofun
    runningHasNone := fun _ => rfl }

theorem State.Ok.hostAbort (hs : s.Ok) : (hostAbort s).Ok := by
  by_cases hrun : s.status = .running
  · rw [hostAbort_of_running hrun]
    exact { hs with
      memory := { hs.memory with }
      faultedHasRecord := fun _ => Option.some_ne_none _
      runningHasNone := nofun }
  · rwa [hostAbort_of_not_running hrun]

theorem State.Ok.hostShutdown (hs : s.Ok) (h : hostShutdown s = .ok t) : t.Ok := by
  obtain ⟨-, rfl⟩ := hostShutdown_eq_ok_iff.mp h
  exact { hs with
    memory := { hs.memory with }
    faultedHasRecord := nofun
    runningHasNone := nofun }

end HostInterface

/-! ### The statements settled -/

/-- Settles O52: the fields of `hostInit` one by one; the stack reads as the draws. -/
theorem initGivesResetValues : Obligations.InitGivesResetValues := fun _ _ draw _ _ =>
  ⟨rfl, fun _ hi => Memory.read_tabulate draw hi, rfl, rfl, rfl, rfl, rfl, fun _ => rfl, lookup_nil,
    rfl, rfl, rfl, rfl⟩

/-- Settles O58: an operation that succeeds writes inside a capacity, or only what the invariant wants of the new
status. -/
theorem hostOperationsKeepStateOk : Obligations.HostOperationsKeepStateOk := fun s =>
  ⟨fun h n draw rv => hostInit_ok h n draw rv s, fun hs =>
    ⟨fun _ _ _ => hs.hostSetMethod, fun _ _ _ => hs.hostSetStack, fun _ _ _ => hs.hostRun, hs.hostAbort,
      fun _ => hs.hostShutdown⟩⟩

/-- Settles O53: status, then index, then the entry put in the table. -/
theorem setMethodOutcomes : Obligations.SetMethodOutcomes := by
  refine fun d k s => ⟨fun huninit => hostSetMethod_of_not_ready (by rw [huninit]; rfl), fun hstatus => ?_⟩
  have hready := ready_iff.mpr hstatus
  refine ⟨hostSetMethod_of_outside hready, fun hnonneg hlt =>
    ⟨_, hostSetMethod_eq_ok_iff.mpr ⟨hready, hnonneg, hlt, rfl⟩, ?_, fun j hj => ?_⟩⟩
  · rw [lookup_insertAt, if_pos rfl]
  · rw [lookup_insertAt, if_neg hj]

/-- Settles O54: status, then index, then the write of the slot. -/
theorem setStackOutcomes : Obligations.SetStackOutcomes := by
  refine fun k w s hs =>
    ⟨fun huninit => hostSetStack_of_not_ready (by rw [huninit]; rfl), fun hstatus => ?_⟩
  have hready := ready_iff.mpr hstatus
  exact ⟨hostSetStack_of_outside hready, fun hnonneg hlt =>
    ⟨_, hostSetStack_eq_ok_iff.mpr ⟨hready, hnonneg, hlt, rfl⟩,
      Memory.read_write_self hs.stackCanonical _ _,
      fun _ hj => Memory.read_write_of_ne hs.stackCanonical hj _⟩⟩

/-- Settles O55: status, then program, then the entry frame. -/
theorem runStartOutcomes : Obligations.RunStartOutcomes := by
  refine fun program entry s => ⟨fun hstatus => hostRun_of_not_ready ?_, fun hstatus => ?_⟩
  · obtain h | h := hstatus <;> rw [h] <;> rfl
  · have hready := ready_iff.mpr hstatus
    exact ⟨hostRun_of_empty hready, fun hprogram => hostRun_eq_ok_iff.mpr ⟨hready, hprogram, rfl⟩⟩

/-- Settles O56: the abort writes status and record, and Uninit is not a ready status. -/
theorem abortAndShutdownOutcomes : Obligations.AbortAndShutdownOutcomes := by
  refine fun s => ⟨fun hrun => ?_, fun hstatus => ?_⟩
  · rw [hostAbort_of_running hrun]
    exact ⟨rfl, runResult_of_aborted rfl rfl rfl⟩
  · have huninit : (s.setStatus .uninit).status.ready = false := rfl
    exact ⟨_, hostShutdown_eq_ok_iff.mpr ⟨ready_iff.mpr hstatus, rfl⟩, rfl,
      fun _ _ => hostSetMethod_of_not_ready huninit, fun _ _ => hostSetStack_of_not_ready huninit,
      fun _ _ => hostRun_of_not_ready huninit, hostShutdown_of_not_ready huninit⟩

end Sys2Proof.Machine
end
